-- ==== Sys2Proof/Word.lean ====
section
/-! DEFINITION. The word types of the spec (00_scope.md R10, R11): bytes, u16, u32, the 48-bit header word, byte sequences. -/

namespace Sys2Proof

/-- A byte, 8 bits (R10). -/
abbrev Byte := BitVec 8

/-- `u16` (R10). -/
abbrev Word16 := BitVec 16

/-- `u32` (R10). -/
abbrev Word32 := BitVec 32

/-- The 48-bit header word H of R11, byte k of the header in bits 8k+7 .. 8k. -/
abbrev HeaderWord := BitVec 48

/-- `Bytes`: a finite byte sequence, index 0 first on the wire (R10). -/
abbrev Bytes := List Byte

end Sys2Proof
end

