-- ==== Sys2Proof/Config.lean ====
section
/-! DEFINITION. The constants of R8, the parameters of R9 (and SETCH_ACK of R233) as one record, and the reserved message
ids of R97 and R98. State carries the record in a field no step writes, so a claim over all states is a claim over all
parameter values (log entry 5); at reset the parameters R9 leaves OPEN are free values (log entry 25). -/

namespace Sys2Proof

/-- HDR_LEN (R8): bytes in a frame header, both forms. -/
abbrev hdrLen : Nat := 6

/-- HIST_CAP (R8): capacity of the Command History. -/
abbrev histCap : Nat := 20

/-- HWINFO_LEN (R8, 90_conflicts.md C1): bytes in the hardware-info payload. -/
abbrev hwinfoLen : Nat := 84

/-- SRC_DEFAULT (R8, R25). -/
abbrev srcDefault : Byte := 0x01

/-- LONG_FLAG (R8): the constant ORed in the long-form test of step 5. -/
abbrev longFlag : Byte := 0x80

/-- MGMSG_HW_RESPONSE (R97). -/
abbrev idHwResponse : Word16 := 0x0080

/-- MGMSG_HW_RICHRESPONSE (R97). -/
abbrev idHwRichResponse : Word16 := 0x0081

/-- "get hardware info" (R98). -/
abbrev idGetHwInfo : Word16 := 0x0005

/-- "set channel enable state" (R98). -/
abbrev idSetChannelState : Word16 := 0x0210

/-- "get channel enable state" (R98). -/
abbrev idGetChannelState : Word16 := 0x0211

/-- Enable periodic updates (R98). The spec gives no sequence: a host sends it with WRITE or QUERY (R235). -/
abbrev idEnableUpdates : Word16 := 0x0011

/-- Disable periodic updates (R98, R235). -/
abbrev idDisableUpdates : Word16 := 0x0012

/-- "identify/flash LED" (R98, R235). -/
abbrev idIdentify : Word16 := 0x0223

/-- "disconnect from bus" (R98, R235). -/
abbrev idDisconnect : Word16 := 0x0002

/-- The nine reserved message ids, complete as the spec gives them (R98). -/
def reservedIds : List Word16 :=
  [idHwResponse, idHwRichResponse, idGetHwInfo, idEnableUpdates, idDisableUpdates, idSetChannelState,
    idGetChannelState, idIdentify, idDisconnect]

/-- Which `source` the long-form test of step 5 uses (R9, R146). -/
inductive LongtestSrc
  /-- The header's byte 5 (the decided value, 90_conflicts.md C8). -/
  | hdr
  /-- The configured SRC. -/
  | cfg
  deriving DecidableEq, Repr

/-- SETCH_ACK (R233): how SET_CHANNEL_STATE sends its frame. -/
inductive SetchAck
  /-- Send-only (the decided value, 90_conflicts.md C6). -/
  | write
  /-- QUERY, its answer discarded. -/
  | query
  deriving DecidableEq, Repr

/-- A row's value in the Model Table: a pair of text (R191). -/
structure ModelEntry where
  description : String
  modelCode : String
  deriving DecidableEq, Repr

/-- The one row of the Model Table the source gives, under prefix 40 (R191). -/
def knownModel : ModelEntry := ⟨"Single channel stepper driver", "BSC101"⟩

/-- The parameters of R9, and SETCH_ACK of R233. -/
structure Config where
  /-- DRAIN_MAX, at least 1 (R9, R151). -/
  drainMax : Nat
  /-- LONGTEST_SRC (R146). -/
  longtestSrc : LongtestSrc
  /-- MODEL_TABLE, a partial map from prefixes 10..99, as rows (R191). -/
  modelTable : List (Nat × ModelEntry)
  /-- TRIM_PAD, the set of bytes trimmed besides 0x00, as a list (R187). -/
  trimPad : List Byte
  /-- VERBOSE_RESET (R29). -/
  verboseReset : Bool
  /-- SETCH_ACK (R233). -/
  setchAck : SetchAck
  deriving DecidableEq, Repr

/-- The constraints of R9 on the parameters: DRAIN_MAX at least 1; every key of the Model Table in 10..99 and listed
once; the table contains the known row. -/
def Config.wf (c : Config) : Bool :=
  decide (1 ≤ c.drainMax) && c.modelTable.all (fun r => decide (10 ≤ r.1) && decide (r.1 ≤ 99))
    && decide (c.modelTable.map Prod.fst).Nodup && decide (c.modelTable.lookup 40 = some knownModel)

/-- FREE VALUE (R9, D7; log entry 25): DRAIN_MAX is OPEN but for being at least 1, so it is one more than a number of which
nothing is known. -/
opaque Config.freeDrainMax : Nat

/-- FREE VALUE (R191, D13; log entry 25): the Model Table's row under a prefix the source gives no row for, or none. Nothing is
known of which rows are present. -/
opaque Config.freeModelRow : Nat → Option ModelEntry

/-- The Model Table as R191 gives it: the known row under prefix 40, a free value under every other prefix. -/
def Config.modelRow (k : Nat) : Option ModelEntry := if k = 40 then some knownModel else Config.freeModelRow k

/-- The rows of a table whose row under key `k` is `row k`, for the keys of `keys`. -/
def tableRows (row : Nat → Option ModelEntry) (keys : List Nat) : List (Nat × ModelEntry) :=
  keys.filterMap fun k => (row k).map fun m => (k, m)

/-- The decided values of R9 and R233, and the free values for the two parameters they leave OPEN, DRAIN_MAX and the rows of
the Model Table beside the known one (log entries 5 and 25). -/
def Config.decided : Config where
  drainMax := Config.freeDrainMax + 1
  longtestSrc := .hdr
  modelTable := tableRows Config.modelRow (List.range' 10 90)
  trimPad := [0x20]
  verboseReset := true
  setchAck := .write

end Sys2Proof
end

