-- ==== Sys2Proof/Syntax.lean ====
section
/-! DEFINITION. The instructions: one constructor per row of spec/opcode_table.json. Three kinds of row (30_encoding.md
R108): the operation selects of R104 and R105, the five classes of received frame of R95, and the five host sequences of
R107. -/

namespace Sys2Proof

/-- One constructor per row of the opcode table. -/
inductive Instr
  /-- OPSEL 0x0, reserved (R105). -/
  | reserved
  /-- ENC_SHORT (R121). -/
  | encShort (id : Word16) (p1 p2 dest source : Byte)
  /-- DEC_LONG (R122). -/
  | decLong (b : Bytes)
  /-- DEC_SHORT (R123). -/
  | decShort (b : Bytes)
  /-- CLS_STEP (R148). -/
  | clsStep
  /-- CLS_RUN (R150). -/
  | clsRun
  /-- HIST_PUSH (R171). -/
  | histPush (id : Word16)
  /-- HIST_LAST (R172). -/
  | histLast
  /-- HWI_DECODE (R190). -/
  | hwiDecode (payload : Bytes)
  /-- MODEL_LOOKUP (R193). -/
  | modelLookup (serial : Word32)
  /-- HWI_LATCH (R196). -/
  | hwiLatch (payload : Bytes)
  /-- INIT (R210). -/
  | init (source destination : Option Byte)
  /-- SET_SUID (R212). -/
  | setSuid (v : Option Word16)
  /-- SET_HANDLER (R213). -/
  | setHandler (present : Bool)
  /-- SET_VERBOSE (R214). -/
  | setVerbose (on : Bool)
  /-- CR_RD (R215). -/
  | crRd (n : Nat)
  /-- A received frame of class HW_RESPONSE: id 0x0080, short layout (R142). -/
  | hwResponse (param1 param2 dest source : Byte)
  /-- A received frame of class HW_RICHRESPONSE: id 0x0081, long layout (R143). -/
  | hwRichResponse (length : Word16) (dest source : Byte)
  /-- A received frame of class STATUS_UPDATE, long layout (R144). -/
  | statusUpdate (id length : Word16) (dest source : Byte)
  /-- A received frame of class ANSWER_LONG (R145). -/
  | answerLong (id length : Word16) (dest source : Byte)
  /-- A received frame of class ANSWER_SHORT (R147). -/
  | answerShort (id : Word16) (param1 param2 dest source : Byte)
  /-- The host sequence QUERY (R227). -/
  | query (id : Word16) (param1 param2 : Byte)
  /-- The host sequence WRITE (R228). -/
  | write (id : Word16) (param1 param2 : Byte)
  /-- The host sequence GET_HW_INFO (R230). -/
  | getHwInfo
  /-- The host sequence SET_CHANNEL_STATE (R233). -/
  | setChannelState (channel : Nat) (enabled : Bool)
  /-- The host sequence GET_CHANNEL_STATE (R234). -/
  | getChannelState (channel : Nat)
  deriving DecidableEq, Repr

end Sys2Proof
end

