-- ==== Sys2Proof/Decode.lean ====
section
/-! DEFINITION. Byte order (R12, R63), the two views of the 6-byte header (R90 to R93), the classification of a received
frame (R95, R140), the decoder of the host port's requests, and the encoder. The spec gives an OPSEL code to each operation
(R104) but no byte layout for operands and no selector for a host sequence; those are a DESIGN CHOICE (log entry 2). -/

namespace Sys2Proof

/-! ## Byte order -/

/-- Two bytes, low byte first, as a u16 (R12, R63). -/
def le16 (lo hi : Byte) : Word16 := hi ++ lo

/-- Four bytes, low byte first, as a u32 (R12, R63). -/
def le32 (b0 b1 b2 b3 : Byte) : Word32 := (b3 ++ b2 : Word16) ++ (b1 ++ b0 : Word16)

/-- `bytes16(v) = [v[7:0], v[15:8]]` (R12). -/
def bytes16 (v : Word16) : Bytes := [v.extractLsb' 0 8, v.extractLsb' 8 8]

/-- The four bytes of a u32, low byte first (R63). -/
def bytes32 (v : Word32) : Bytes :=
  [v.extractLsb' 0 8, v.extractLsb' 8 8, v.extractLsb' 16 8, v.extractLsb' 24 8]

/-! ## The header -/

/-- The six bytes of a header, `b0` first on the wire (R90). -/
structure Header where
  b0 : Byte
  b1 : Byte
  b2 : Byte
  b3 : Byte
  b4 : Byte
  b5 : Byte
  deriving DecidableEq, Repr

namespace Header

/-- `message_id`, the same in both layouts (R91, R92). -/
def id (h : Header) : Word16 := le16 h.b0 h.b1

/-- `length`, long layout (R91). -/
def length (h : Header) : Word16 := le16 h.b2 h.b3

/-- `param1`, short layout (R92). -/
def param1 (h : Header) : Byte := h.b2

/-- `param2`, short layout (R92). -/
def param2 (h : Header) : Byte := h.b3

/-- `dest`, the same in both layouts (R91, R92). -/
def dest (h : Header) : Byte := h.b4

/-- `source`, the same in both layouts (R91, R92). -/
def source (h : Header) : Byte := h.b5

/-- The header's bytes in wire order. -/
def bytes (h : Header) : Bytes := [h.b0, h.b1, h.b2, h.b3, h.b4, h.b5]

/-- The 48-bit word H with `H[8k+7:8k] = b[k]` (R11). -/
def word (h : Header) : HeaderWord := (h.b5 ++ h.b4 ++ h.b3 : BitVec 24) ++ (h.b2 ++ h.b1 ++ h.b0 : BitVec 24)

/-- The header in a byte sequence: its first six bytes, none when there are fewer (R122, R123). -/
def ofBytes? : Bytes → Option Header
  | b0 :: b1 :: b2 :: b3 :: b4 :: b5 :: _ => some ⟨b0, b1, b2, b3, b4, b5⟩
  | _ => none

/-- The header of a short-form frame (R92). -/
def short (id : Word16) (p1 p2 dest source : Byte) : Header :=
  ⟨id.extractLsb' 0 8, id.extractLsb' 8 8, p1, p2, dest, source⟩

/-- The header of a long-form frame (R91). Received only: the block has no long-form encoder (R125). -/
def long (id length : Word16) (dest source : Byte) : Header :=
  ⟨id.extractLsb' 0 8, id.extractLsb' 8 8, length.extractLsb' 0 8, length.extractLsb' 8 8, dest, source⟩

end Header

/-! ## Classification of a received frame -/

/-- The class of a received frame with the fields its layout gives it (R95). -/
inductive Frame
  | hwResponse (param1 param2 dest source : Byte)
  | hwRichResponse (length : Word16) (dest source : Byte)
  | statusUpdate (id length : Word16) (dest source : Byte)
  | answerLong (id length : Word16) (dest source : Byte)
  | answerShort (id : Word16) (param1 param2 dest source : Byte)
  deriving DecidableEq, Repr

/-- What, beside the header, the class of a frame depends on (R94): SUID with SUID_SET, the newest history entry, and
with LONGTEST_SRC = CFG the configured SRC. -/
structure FrameContext where
  suid : Option Word16
  newest : Option Word16
  longtestSrc : LongtestSrc
  src : Byte
  deriving DecidableEq, Repr

/-- The test of step 4: `SUID_SET == 1 and id == SUID and CNT > 0 and HIST[CNT-1] == SUID` (R144). -/
def statusTest (c : FrameContext) (id : Word16) : Bool :=
  decide (c.suid = some id) && decide (c.newest = some id)

/-- The long-form test of step 5, `(src_op | 0x80) == dest` (R146). -/
def longTest (c : FrameContext) (dest source : Byte) : Bool :=
  match c.longtestSrc with
  | .hdr => decide ((source ||| longFlag) = dest)
  | .cfg => decide ((c.src ||| longFlag) = dest)

/-- The ordered tests of steps 2 to 5 (R95, R140). Total: every header falls in one class (R99). -/
def classify (c : FrameContext) (h : Header) : Frame :=
  if h.id = idHwResponse then .hwResponse h.param1 h.param2 h.dest h.source
  else if h.id = idHwRichResponse then .hwRichResponse h.length h.dest h.source
  else if statusTest c h.id then .statusUpdate h.id h.length h.dest h.source
  else if longTest c h.dest h.source then .answerLong h.id h.length h.dest h.source
  else .answerShort h.id h.param1 h.param2 h.dest h.source

/-- A class as a row of the opcode table. -/
def Frame.toInstr : Frame → Instr
  | .hwResponse p1 p2 d s => .hwResponse p1 p2 d s
  | .hwRichResponse l d s => .hwRichResponse l d s
  | .statusUpdate i l d s => .statusUpdate i l d s
  | .answerLong i l d s => .answerLong i l d s
  | .answerShort i p1 p2 d s => .answerShort i p1 p2 d s

/-- The header of a frame of each class. -/
def Frame.header : Frame → Header
  | .hwResponse p1 p2 d s => .short idHwResponse p1 p2 d s
  | .hwRichResponse l d s => .long idHwRichResponse l d s
  | .statusUpdate i l d s => .long i l d s
  | .answerLong i l d s => .long i l d s
  | .answerShort i p1 p2 d s => .short i p1 p2 d s

/-- The decoder of the RX stream: the instruction that the first six bytes are, in context `c`; none when there are fewer
than six. -/
def decodeFrame (c : FrameContext) (b : Bytes) : Option Instr :=
  (Header.ofBytes? b).map fun h => (classify c h).toInstr

/-! ## Requests of the host -/

/-- Why a byte string is no request (log entry 3). -/
inductive DecodeError
  /-- The first byte selects nothing. -/
  | unknownSelector (b : Byte)
  /-- The bytes end inside the selector or an operand. -/
  | truncated
  /-- A flag byte is neither 0 nor 1. -/
  | badFlag (b : Byte)
  deriving DecidableEq, Repr

/-- A value read from the front of a byte string, with the bytes after it. -/
abbrev Decoded (α : Type) := Except DecodeError (α × Bytes)

/-- Read on with what is left. -/
def Decoded.andThen {α β : Type} (m : Decoded α) (f : α → Bytes → Decoded β) : Decoded β :=
  match m with
  | .ok (a, rest) => f a rest
  | .error e => .error e

/-- One byte. -/
def readByte : Bytes → Decoded Byte
  | b :: rest => .ok (b, rest)
  | [] => .error .truncated

/-- A u16, low byte first. -/
def readWord16 : Bytes → Decoded Word16
  | b0 :: b1 :: rest => .ok (le16 b0 b1, rest)
  | _ => .error .truncated

/-- A u32, low byte first. -/
def readWord32 : Bytes → Decoded Word32
  | b0 :: b1 :: b2 :: b3 :: rest => .ok (le32 b0 b1 b2 b3, rest)
  | _ => .error .truncated

/-- A register or channel number: a u32. -/
def readNumber (b : Bytes) : Decoded Nat :=
  (readWord32 b).andThen fun n rest => .ok (n.toNat, rest)

/-- A bit: the byte 0 or 1. -/
def readFlag : Bytes → Decoded Bool
  | [] => .error .truncated
  | b :: rest => if b = 0 then .ok (false, rest) else if b = 1 then .ok (true, rest) else .error (.badFlag b)

/-- A byte sequence: its length as a u32, then the bytes. -/
def readBytes (b : Bytes) : Decoded Bytes :=
  (readWord32 b).andThen fun n rest =>
    if rest.length < n.toNat then .error .truncated else .ok (rest.take n.toNat, rest.drop n.toNat)

/-- An optional operand: a flag, then the value where the flag is 1. -/
def readOption {α : Type} (read : Bytes → Decoded α) (b : Bytes) : Decoded (Option α) :=
  (readFlag b).andThen fun present rest =>
    if present then (read rest).andThen fun a rest' => .ok (some a, rest') else .ok (none, rest)

/-- Operand readers for the selected operation; `sel` is the OPSEL code of R104, or 0x10 to 0x14 for the host sequences of
R107 in their order (log entry 2). -/
def decodeOperands (sel : Nat) (b : Bytes) : Decoded Instr :=
  match sel with
  | 0x0 => .ok (.reserved, b)
  | 0x1 => (readWord16 b).andThen fun id b => (readByte b).andThen fun p1 b => (readByte b).andThen fun p2 b =>
      (readByte b).andThen fun dest b => (readByte b).andThen fun source b => .ok (.encShort id p1 p2 dest source, b)
  | 0x2 => (readBytes b).andThen fun p b => .ok (.decLong p, b)
  | 0x3 => (readBytes b).andThen fun p b => .ok (.decShort p, b)
  | 0x4 => .ok (.clsStep, b)
  | 0x5 => .ok (.clsRun, b)
  | 0x6 => (readWord16 b).andThen fun id b => .ok (.histPush id, b)
  | 0x7 => .ok (.histLast, b)
  | 0x8 => (readBytes b).andThen fun p b => .ok (.hwiDecode p, b)
  | 0x9 => (readWord32 b).andThen fun serial b => .ok (.modelLookup serial, b)
  | 0xA => (readBytes b).andThen fun p b => .ok (.hwiLatch p, b)
  | 0xB => (readOption readByte b).andThen fun source b => (readOption readByte b).andThen fun destination b =>
      .ok (.init source destination, b)
  | 0xC => (readOption readWord16 b).andThen fun v b => .ok (.setSuid v, b)
  | 0xD => (readFlag b).andThen fun present b => .ok (.setHandler present, b)
  | 0xE => (readFlag b).andThen fun on b => .ok (.setVerbose on, b)
  | 0xF => (readNumber b).andThen fun n b => .ok (.crRd n, b)
  | 0x10 => (readWord16 b).andThen fun id b => (readByte b).andThen fun p1 b => (readByte b).andThen fun p2 b =>
      .ok (.query id p1 p2, b)
  | 0x11 => (readWord16 b).andThen fun id b => (readByte b).andThen fun p1 b => (readByte b).andThen fun p2 b =>
      .ok (.write id p1 p2, b)
  | 0x12 => .ok (.getHwInfo, b)
  | 0x13 => (readNumber b).andThen fun channel b => (readFlag b).andThen fun enabled b =>
      .ok (.setChannelState channel enabled, b)
  | 0x14 => (readNumber b).andThen fun channel b => .ok (.getChannelState channel, b)
  | n => .error (.unknownSelector (BitVec.ofNat 8 n))

/-- The decoder of the host port: a selector byte, then the operands in the order of R104. Total; bytes after the last
operand are left over. -/
def decodeRequest : Bytes → Decoded Instr
  | [] => .error .truncated
  | sel :: b => decodeOperands sel.toNat b

/-! ## The encoder -/

/-- A bit as a byte. -/
def encodeFlag (b : Bool) : Bytes := if b then [1] else [0]

/-- A register or channel number as a u32. -/
def encodeNumber (n : Nat) : Bytes := bytes32 (BitVec.ofNat 32 n)

/-- A byte sequence with its length before it. -/
def encodeBytes (b : Bytes) : Bytes := encodeNumber b.length ++ b

/-- An optional operand. -/
def encodeOption {α : Type} (enc : α → Bytes) : Option α → Bytes
  | none => [0]
  | some a => 1 :: enc a

/-- The bytes of a well-formed instruction: a request of the host port, or the header of a received frame (R91, R92). -/
def encode : Instr → Bytes
  | .reserved => [0x00]
  | .encShort id p1 p2 dest source => 0x01 :: (bytes16 id ++ [p1, p2, dest, source])
  | .decLong b => 0x02 :: encodeBytes b
  | .decShort b => 0x03 :: encodeBytes b
  | .clsStep => [0x04]
  | .clsRun => [0x05]
  | .histPush id => 0x06 :: bytes16 id
  | .histLast => [0x07]
  | .hwiDecode payload => 0x08 :: encodeBytes payload
  | .modelLookup serial => 0x09 :: bytes32 serial
  | .hwiLatch payload => 0x0A :: encodeBytes payload
  | .init source destination => 0x0B :: (encodeOption (fun b => [b]) source ++ encodeOption (fun b => [b]) destination)
  | .setSuid v => 0x0C :: encodeOption bytes16 v
  | .setHandler present => 0x0D :: encodeFlag present
  | .setVerbose on => 0x0E :: encodeFlag on
  | .crRd n => 0x0F :: encodeNumber n
  | .hwResponse p1 p2 d s => (Header.short idHwResponse p1 p2 d s).bytes
  | .hwRichResponse l d s => (Header.long idHwRichResponse l d s).bytes
  | .statusUpdate i l d s => (Header.long i l d s).bytes
  | .answerLong i l d s => (Header.long i l d s).bytes
  | .answerShort i p1 p2 d s => (Header.short i p1 p2 d s).bytes
  | .query id p1 p2 => 0x10 :: (bytes16 id ++ [p1, p2])
  | .write id p1 p2 => 0x11 :: (bytes16 id ++ [p1, p2])
  | .getHwInfo => [0x12]
  | .setChannelState channel enabled => 0x13 :: (encodeNumber channel ++ encodeFlag enabled)
  | .getChannelState channel => 0x14 :: encodeNumber channel

/-- The instruction comes from the RX stream, not from the host port: a RXFRAME row (R108). -/
def Instr.fromRx : Instr → Bool
  | .reserved => false
  | .encShort _ _ _ _ _ => false
  | .decLong _ => false
  | .decShort _ => false
  | .clsStep => false
  | .clsRun => false
  | .histPush _ => false
  | .histLast => false
  | .hwiDecode _ => false
  | .modelLookup _ => false
  | .hwiLatch _ => false
  | .init _ _ => false
  | .setSuid _ => false
  | .setHandler _ => false
  | .setVerbose _ => false
  | .crRd _ => false
  | .hwResponse _ _ _ _ => true
  | .hwRichResponse _ _ _ => true
  | .statusUpdate _ _ _ _ => true
  | .answerLong _ _ _ _ => true
  | .answerShort _ _ _ _ _ => true
  | .query _ _ _ => false
  | .write _ _ _ => false
  | .getHwInfo => false
  | .setChannelState _ _ => false
  | .getChannelState _ => false

/-! ## Words of the opcode table -/

/-- The first `n` bytes of a word whose bits are numbered as the table numbers them. -/
def tableBytes (n w : Nat) : Bytes := (List.range n).map fun k => BitVec.ofNat 8 (w >>> (8 * k))

/-- The context at power-on: SUID unset, history empty, the decided LONGTEST_SRC, the default SRC (R42). -/
def FrameContext.powerOn : FrameContext := ⟨none, none, .hdr, srcDefault⟩

/-- The channel an identity byte stands for (R102); 0, which is no channel, for a byte outside the map (log entry 10). -/
def channelOfIdent (b : Byte) : Nat :=
  if b = 0x01 then 1 else if b = 0x02 then 2 else if b = 0x04 then 3 else if b = 0x08 then 4 else 0

/-- The row of the table a 48-bit word H belongs to, the rows with the most fixed bits first (log entry 10): the two
notifications by their ids; the host sequences whose TXFRAME pattern fixes an id; otherwise the class the frame has at
power-on. -/
def decodeTableFrame (h : Header) : Instr :=
  if h.id = idGetHwInfo ∧ h.param1 = 0 ∧ h.param2 = 0 then .getHwInfo
  else if h.id = idSetChannelState then .setChannelState (channelOfIdent h.param1) (decide (h.param2 = 0x01))
  else if h.id = idGetChannelState ∧ h.param2 = 0 then .getChannelState (channelOfIdent h.param1)
  else (classify .powerOn h).toInstr

/-- The instruction that an instruction word of the opcode table is. A word of at most 8 bits is an OPSEL code (mask 0xF)
with operands of zeros; a word of 48 bits is a frame. -/
def decodeTableWord (nbits w : Nat) : Option Instr :=
  if nbits ≤ 8 then
    match decodeRequest (BitVec.ofNat 8 (w % 16) :: tableBytes 16 0) with
    | .ok (i, _) => some i
    | .error _ => none
  else if nbits = 48 then (Header.ofBytes? (tableBytes 6 w)).map decodeTableFrame
  else none

end Sys2Proof
end

