-- ==== Sys2Proof/Machine/State.lean ====
section
/-! DEFINITION. The state of one instance of the block with its environment (10_state.md R20, 20_memory.md R60), the replies
an operation can have, and the state at power-on. Plain data throughout. -/

namespace Sys2Proof.Machine

/-! ## Values -/

/-- The body of a decoded message (R14). -/
inductive Body
  | shortParams (param1 param2 : Byte)
  /-- `|bytes| = length` for every message the block makes (R14). -/
  | longData (length : Word16) (bytes : Bytes)
  deriving DecidableEq, Repr

/-- The decoded message (R14). -/
structure Message where
  id : Word16
  dest : Byte
  source : Byte
  body : Body
  deriving DecidableEq, Repr

/-- The kind of a notification on NOTE_OUT (R69). -/
inductive NoteKind
  | hwResponse
  | hwRichResponse
  deriving DecidableEq, Repr

/-- The class of a consumed frame (R140). -/
inductive ConsumedClass
  | hwResponse
  | hwRichResponse
  | statusUpdate
  deriving DecidableEq, Repr

/-- The outcome of the classifier on one frame, where it is no error (R140). -/
inductive FrameOutcome
  | consumed (c : ConsumedClass)
  | answer (m : Message)
  deriving DecidableEq, Repr

/-- The result of a hardware-info decode (R185). -/
structure HardwareIdentity where
  serialNumber : Word32
  modelText : Bytes
  hardwareType : Word16
  softwareVersion : Word32
  notes : Bytes
  hardwareVersion : Word16
  modState : Word16
  channelCount : Word16
  /-- `None` is the source's UnknownModel (R185, R194). -/
  model : Option ModelEntry
  deriving DecidableEq, Repr

/-- The error kinds with their sub-causes and recorded info (R252). -/
inductive ErrorKind
  /-- FrameError(ShortRead). -/
  | shortRead (got : Nat)
  /-- FrameError(ShortPayload). -/
  | shortPayload (want got : Nat)
  /-- TransportTimeout(NoFrame). -/
  | noFrame
  /-- TransportTimeout(DrainExhausted). -/
  | drainExhausted (drainCnt : Nat)
  /-- UnknownChannel. -/
  | unknownChannel (channel : Nat)
  /-- UnknownModel: a name for the host; no operation raises it (R194, R256). -/
  | unknownModel (modelKey : Option Nat)
  /-- ProtocolViolation(BadChannelState). -/
  | badChannelState (b : Byte)
  /-- ProtocolViolation(BadInfoLength). -/
  | badInfoLength (got : Nat)
  /-- ProtocolViolation(InfoNotLong). -/
  | infoNotLong
  /-- ProtocolViolation(ExpectedShort). -/
  | expectedShort
  /-- NotSupported(NoStatusHandler). -/
  | noStatusHandler (id : Word16)
  /-- NotSupported(BadRegister). -/
  | badRegister (n : Nat)
  /-- NotSupported(ReservedOp). -/
  | reservedOp (opsel : Nat)
  /-- ConfigurationError(NoDestination). -/
  | noDestination
  deriving DecidableEq, Repr

/-- What an operation or sequence hands its caller (R13 `return`, R251 `raise`; results by R104). -/
inductive Reply
  /-- No result. -/
  | done
  /-- ENC_SHORT. -/
  | bytes (b : Bytes)
  /-- DEC_LONG. -/
  | longHeader (id length : Word16) (dest source : Byte)
  /-- DEC_SHORT. -/
  | shortHeader (id : Word16) (param1 param2 dest source : Byte)
  /-- CLS_STEP. -/
  | frame (o : FrameOutcome)
  /-- CLS_RUN and QUERY. -/
  | message (m : Message)
  /-- HIST_LAST. -/
  | last (id : Option Word16)
  /-- HWI_DECODE, HWI_LATCH and GET_HW_INFO. -/
  | identity (r : HardwareIdentity)
  /-- MODEL_LOOKUP. -/
  | model (m : Option ModelEntry)
  /-- CR_RD. -/
  | value (v : Word32)
  /-- GET_CHANNEL_STATE. -/
  | channelState (enabled : Bool)
  /-- An error: a result like the others, recorded in no register (R251). -/
  | error (e : ErrorKind)
  deriving DecidableEq, Repr

/-! ## State -/

/-- SEQ (R36). -/
inductive Seq
  | idle
  | waitHdr
  | waitPayload
  deriving DecidableEq, Repr

/-- The identity cache while ID_VALID = 1 (R33). -/
structure IdCache where
  /-- ID_SERIAL. -/
  serial : Word32
  /-- ID_PREFIX; none is ID_MODEL_KNOWN = 0. -/
  modelKey : Option (BitVec 7)
  /-- ID_NCH. -/
  nch : Word16
  deriving DecidableEq, Repr

/-- The state of one instance (R20), its environment (R60) and the model's own fields (INVENTORY.md). -/
structure State where
  /-- The parameters of R9; no step writes them (log entry 5). -/
  cfg : Config
  /-- SRC (R25). -/
  src : Byte
  /-- DEST; none is DEST_SET = 0 (R26, R41). -/
  dest : Option Byte
  /-- SUID; none is SUID_SET = 0 (R27, R41). -/
  suid : Option Word16
  /-- HANDLER (R28). -/
  handler : Bool
  /-- VERBOSE (R29). -/
  verbose : Bool
  /-- HDR (R22). -/
  hdr : HeaderWord
  /-- PBUF (R23). -/
  pbuf : Bytes
  /-- RING (R31). -/
  ring : Vector Word16 20
  /-- WP (R31): the index the next push writes. -/
  wp : Fin 20
  /-- CNT (R31): the number of valid entries. -/
  cnt : Fin 21
  /-- The identity cache; none is ID_VALID = 0 (R33, R41). -/
  ident : Option IdCache
  /-- SEQ (R36). -/
  seq : Seq
  /-- DRAIN_CNT (R37). -/
  drainCnt : Nat
  /-- BUSY (R38). -/
  busy : Bool
  /-- RXBUF (R61), oldest first. -/
  rxbuf : Bytes
  /-- TXLOG (R62), oldest first. -/
  txlog : Bytes
  /-- NOTELOG (R69), oldest first. -/
  notelog : List (NoteKind × Message)
  /-- STATUSLOG (R69), oldest first. -/
  statuslog : List Message
  /-- What the transport will receive at each moment at which the environment may act (R61, R64; log entry 4). -/
  incoming : List Bytes
  /-- The host's requests, the next to run first (R18, R72; log entry 2). -/
  requests : List Bytes
  /-- What the callers were handed, oldest first (log entry 8). -/
  replies : List Reply
  deriving DecidableEq, Repr

/-- Why the machine stops with a fault. No operation of the spec does: its errors are results (R250). Both are raised by
step alone, for a request of the host port whose operand bytes are broken, which no operation of the spec is (log entry 3). -/
inductive Fault
  /-- Raised by step: the request's bytes end inside its operands, or it has none at all. Safe: the machine stops. -/
  | truncatedRequest
  /-- Raised by step: a flag byte of the request is neither 0 nor 1. Safe: the machine stops. -/
  | badFlagByte (b : Byte)
  deriving DecidableEq, Repr

/-- Why an instruction is refused. -/
inductive Refusal
  /-- Raised by exec for an instruction that has no meaning yet. Safe: the machine stops. -/
  | notModelled (mnemonic : String)
  /-- Raised by step: the request's first byte selects no operation and no host sequence (log entry 3). Safe: the machine
  stops. -/
  | unknownSelector (b : Byte)
  deriving DecidableEq, Repr

/-- The machine right after reset at power-on (R42, R290): the parameters at their decided values, free where R9 and R191 leave
them OPEN (log entries 5 and 25); the block's registers at the values of R42; HDR, PBUF and RING,
which R42 leaves unspecified, at zero (DESIGN CHOICE, log entry 7); an environment in which nothing has happened yet. -/
def State.reset : State where
  cfg := .decided
  src := srcDefault
  dest := none
  suid := none
  handler := false
  verbose := Config.decided.verboseReset
  hdr := 0
  pbuf := []
  ring := Vector.replicate 20 0
  wp := 0
  cnt := 0
  ident := none
  seq := .idle
  drainCnt := 0
  busy := false
  rxbuf := []
  txlog := []
  notelog := []
  statuslog := []
  incoming := []
  requests := []
  replies := []

end Sys2Proof.Machine
end

