-- ==== Sys2Proof/Machine/Flags.lean ====
section
/-! DEFINITION. The one-bit state elements and derived flags (R35), the Command History as a sequence (R30, R31), and the
control-register file of CR_RD (R40). The block has no condition codes (R35). -/

namespace Sys2Proof.Machine

/-- DEST_SET (R26). -/
def State.destSet (s : State) : Bool := s.dest.isSome

/-- SUID_SET (R27). -/
def State.suidSet (s : State) : Bool := s.suid.isSome

/-- ID_VALID (R33). -/
def State.idValid (s : State) : Bool := s.ident.isSome

/-- ID_PREFIX where ID_MODEL_KNOWN = 1 (R33). -/
def State.idPrefix (s : State) : Option (BitVec 7) := s.ident.bind IdCache.modelKey

/-- ID_MODEL_KNOWN (R33). -/
def State.idModelKnown (s : State) : Bool := s.idPrefix.isSome

/-- HIST_EMPTY (R35). -/
def State.histEmpty (s : State) : Bool := decide (s.cnt.val = 0)

/-- HIST_FULL (R35). -/
def State.histFull (s : State) : Bool := decide (s.cnt.val = 20)

/-- `RING[i mod 20]`. -/
def State.slot (s : State) (i : Nat) : Word16 := s.ring[i % 20]'(Nat.mod_lt i (by decide))

/-- `HIST[k] = RING[(WP + 20 - CNT + k) mod 20]` for `k < CNT` (R31). -/
def State.histEntry (s : State) (k : Nat) : Option Word16 :=
  if k < s.cnt.val then some (s.slot (s.wp.val + 20 - s.cnt.val + k)) else none

/-- HIST, oldest first (R30, R31). -/
def State.hist (s : State) : List Word16 :=
  (List.range s.cnt.val).map fun k => s.slot (s.wp.val + 20 - s.cnt.val + k)

/-- `last()`: none on an empty history, else `RING[(WP + 19) mod 20]` (R172). -/
def State.newest (s : State) : Option Word16 :=
  if s.cnt.val = 0 then none else some (s.slot (s.wp.val + 19))

/-- What the class of a frame depends on beside its header (R94). -/
def State.frameContext (s : State) : FrameContext := ⟨s.suid, s.newest, s.cfg.longtestSrc, s.src⟩

/-- A bit at a position of a 32-bit register value. -/
def bitAt (b : Bool) (k : Nat) : Word32 := if b then 1#32 <<< k else 0

/-- A field in the low bits with its valid bit at position `k`; both 0 where there is no value (R40, R41). -/
def validField {n : Nat} (v : Option (BitVec n)) (k : Nat) : Word32 :=
  match v with
  | some x => x.setWidth 32 ||| bitAt true k
  | none => 0

/-- The control registers of R40, zero-extended to 32 bits (R215); none for a reserved number. -/
def State.controlRegister (s : State) (n : Nat) : Option Word32 :=
  if n = 0 then some (s.src.setWidth 32)
  else if n = 1 then some (validField s.dest 8)
  else if n = 2 then some (validField s.suid 16)
  else if n = 3 then some (bitAt s.handler 0 ||| bitAt s.verbose 1)
  else if n = 4 then
    some (bitAt s.idValid 0 ||| bitAt s.idModelKnown 1 ||| bitAt s.histEmpty 2 ||| bitAt s.histFull 3)
  else if n = 5 then some (BitVec.ofNat 32 s.cnt.val)
  else if n = 6 then some (BitVec.ofNat 32 s.wp.val)
  else if n = 7 then some (validField s.newest 16)
  else if n = 8 then some ((s.ident.map IdCache.serial).getD 0)
  else if n = 9 then some (validField s.idPrefix 7)
  else if n = 10 then some (((s.ident.map IdCache.nch).getD 0).setWidth 32)
  else if 16 ≤ n ∧ n ≤ 35 then some (validField (s.histEntry (n - 16)) 16)
  else none

/-- The code of an error kind, its sub-cause code and its recorded info: the triple of R251, by the table of R252. -/
def ErrorKind.triple : ErrorKind → Nat × Nat × List Nat
  | .shortRead got => (1, 1, [got])
  | .shortPayload want got => (1, 2, [want, got])
  | .noFrame => (2, 1, [])
  | .drainExhausted n => (2, 2, [n])
  | .unknownChannel c => (3, 0, [c])
  | .unknownModel k => (4, 0, k.toList)
  | .badChannelState b => (5, 1, [b.toNat])
  | .badInfoLength got => (5, 2, [got])
  | .infoNotLong => (5, 3, [])
  | .expectedShort => (5, 4, [])
  | .noStatusHandler id => (6, 1, [id.toNat])
  | .badRegister n => (6, 2, [n])
  | .reservedOp n => (6, 3, [n])
  | .noDestination => (7, 1, [])

/-- The cause code of a reply: 0 is success (R252). -/
def Reply.cause : Reply → Nat
  | .error e => e.triple.1
  | .done => 0
  | .bytes _ => 0
  | .longHeader _ _ _ _ => 0
  | .shortHeader _ _ _ _ _ => 0
  | .frame _ => 0
  | .message _ => 0
  | .last _ => 0
  | .identity _ => 0
  | .model _ => 0
  | .value _ => 0
  | .channelState _ => 0

end Sys2Proof.Machine
end

