-- ==== Sys2Proof/Machine/Operands.lean ====
section
/-! DEFINITION. Operand forms: fields of a payload (R12, R101, R186), trimming (R187), the decimal prefix (R192), the Model
Table (R191, R193), and the two channel encodings (R102, R231, R232). -/

namespace Sys2Proof.Machine

/-- `b[k]`; the callers stay inside the sequence. -/
def byteAt (b : Bytes) (k : Nat) : Byte := b.getD k 0

/-- `le16(b, k)` (R12). -/
def le16At (b : Bytes) (k : Nat) : Word16 := le16 (byteAt b k) (byteAt b (k + 1))

/-- `le32(b, k)` (R12). -/
def le32At (b : Bytes) (k : Nat) : Word32 :=
  le32 (byteAt b k) (byteAt b (k + 1)) (byteAt b (k + 2)) (byteAt b (k + 3))

/-- The `n` bytes from index `k` on, `b[k..k+n-1]` (R10). -/
def slice (b : Bytes) (k n : Nat) : Bytes := (b.drop k).take n

/-- A byte Trim removes from the end: 0x00 or a member of TRIM_PAD (R187). -/
def trimmable (pad : List Byte) (b : Byte) : Bool := decide (b = 0) || decide (b ∈ pad)

/-- `Trim(t)` (R187): the end is trimmed, nothing else. -/
def trim (pad : List Byte) (t : Bytes) : Bytes := (t.reverse.dropWhile (trimmable pad)).reverse

/-- `while s >= 100: s <- s / 10`, at most `fuel` times (R192: at most 8 for a u32). -/
def reducePrefix : Nat → Nat → Nat
  | 0, s => s
  | fuel + 1, s => if 100 ≤ s then reducePrefix fuel (s / 10) else s

/-- `Prefix2(s)` (R192): the two leading decimal digits; none below 10. -/
def prefix2 (serial : Word32) : Option Nat :=
  if serial.toNat < 10 then none else some (reducePrefix 8 serial.toNat)

/-- MODEL_LOOKUP (R193): none is UnknownModel. -/
def lookupModel (table : List (Nat × ModelEntry)) (serial : Word32) : Option ModelEntry :=
  (prefix2 serial).bind fun k => table.lookup k

/-- The unpacking of an 84-byte hardware-info payload (R186, R190; offsets of R101). -/
def unpackIdentity (c : Config) (p : Bytes) : HardwareIdentity where
  serialNumber := le32At p 0
  modelText := trim c.trimPad (slice p 4 8)
  hardwareType := le16At p 12
  softwareVersion := le32At p 14
  notes := trim c.trimPad (slice p 18 48)
  hardwareVersion := le16At p 78
  modState := le16At p 80
  channelCount := le16At p 82
  model := lookupModel c.modelTable (le32At p 0)

/-- `CH_IDENT(channel)` (R102, R231); none outside 1..4. -/
def channelIdent (channel : Nat) : Option Byte :=
  if channel = 1 then some 0x01
  else if channel = 2 then some 0x02
  else if channel = 3 then some 0x04
  else if channel = 4 then some 0x08
  else none

/-- `ENC_CHSTATE` (R102, R232). -/
def encodeChannelState (enabled : Bool) : Byte := if enabled then 0x01 else 0x02

/-- `DEC_CHSTATE` (R232); none for every byte but 0x01 and 0x02. -/
def decodeChannelState (b : Byte) : Option Bool :=
  if b = 0x01 then some true else if b = 0x02 then some false else none

/-- The message of a short-form frame (R14, R147). -/
def shortMessage (id : Word16) (p1 p2 dest source : Byte) : Message := ⟨id, dest, source, .shortParams p1 p2⟩

/-- The message of a long-form frame (R14, R145). -/
def longMessage (id length : Word16) (dest source : Byte) (data : Bytes) : Message :=
  ⟨id, dest, source, .longData length data⟩

end Sys2Proof.Machine
end

