-- ==== Sys2Proof/Machine/Ops.lean ====
section
/-! DEFINITION. The shared operations: the body of an operation and how it ends (`return`, `raise`: R13, R251), the lock
(R72), the primitives on the streams and ports (20_memory.md section 3), the history push (R171), the cache write (R196),
reset (R290), and the fetch of a request. -/

namespace Sys2Proof.Machine

/-! ## How an operation runs and ends -/

/-- How a body ends: `return v` or `raise e` (R13). -/
inductive Res (α : Type)
  | ok (v : α)
  | raised (e : ErrorKind)
  deriving DecidableEq, Repr

/-- A body run from a state: the state it leaves and how it ended. -/
abbrev Run (α : Type) := State × Res α

/-- `return v`. -/
def ret {α : Type} (v : α) (s : State) : Run α := (s, .ok v)

/-- Taking an exception, `raise e` (R251): the body ends here with the error as its result; the state stays as it is,
nothing is undone (R155, R251) and nothing is saved (R264). -/
def raise {α : Type} (e : ErrorKind) (s : State) : Run α := (s, .raised e)

/-- Statement after statement: what follows a raise does not run (R251). -/
def Run.andThen {α β : Type} (m : Run α) (f : α → State → Run β) : Run β :=
  match m.2 with
  | .ok v => f v m.1
  | .raised e => (m.1, .raised e)

/-- A lookup that raises where it finds nothing. -/
def orRaise {α : Type} (o : Option α) (e : ErrorKind) (s : State) : Run α :=
  match o with
  | some v => ret v s
  | none => raise e s

/-- The reply an ended body makes: its value as the operation's result, or the error (R251). -/
def Res.reply {α : Type} (f : α → Reply) : Res α → Reply
  | .ok v => f v
  | .raised e => .error e

/-- The end of a transaction, by return or by raise alike: BUSY is cleared (R72, R251) and the caller gets the reply. There
is no other return from an exception (R265). -/
def finish (r : Reply) (s : State) : State := { s with busy := false, replies := s.replies ++ [r] }

/-- A transaction (R72): BUSY is set, the body runs, BUSY is cleared, the caller gets the result. -/
def transact {α : Type} (f : α → Reply) (body : State → Run α) (s : State) : Host.Outcome State Fault Refusal :=
  let m := body { s with busy := true }
  .next (finish (m.2.reply f) m.1)

/-! ## Streams and ports -/

/-- The environment acts: the next chunk of `incoming`, if any, lands at the end of RXBUF (R61). -/
def deliver (s : State) : State :=
  match s.incoming with
  | [] => s
  | c :: cs => { s with rxbuf := s.rxbuf ++ c, incoming := cs }

/-- The first `n` bytes of RXBUF, or all of them when there are fewer, are removed (R64, R65). -/
def takeRx (n : Nat) (s : State) : Bytes × State :=
  (s.rxbuf.take n, { s with rxbuf := s.rxbuf.drop n })

/-- `RxRead(n)` (R64). A read of more than 0 bytes is a suspension point at which bytes may arrive; `RxRead(0)` returns at
once. A return shorter than `n` means that the deadline passed. -/
def rxRead (n : Nat) (s : State) : Bytes × State :=
  if n = 0 then ([], s) else takeRx n (deliver s)

/-- `RxFlush()` (R66). -/
def rxFlush (s : State) : State := { s with rxbuf := [] }

/-- `TxWrite(b)` (R67): it cannot fail (D28, log entry 13). -/
def txWrite (b : Bytes) (s : State) : State := { s with txlog := s.txlog ++ b }

/-- `emit NOTE_OUT(kind, m)` (R69). -/
def emitNote (k : NoteKind) (m : Message) (s : State) : State := { s with notelog := s.notelog ++ [(k, m)] }

/-- A notification is emitted only when VERBOSE = 1 (R29, R142, R143). -/
def notify (k : NoteKind) (m : Message) (s : State) : State := if s.verbose then emitNote k m s else s

/-- `emit STATUS_OUT(m)` (R69). -/
def emitStatus (m : Message) (s : State) : State := { s with statuslog := s.statuslog ++ [m] }

/-- `SEQ <- q` (R36). -/
def setSeq (q : Seq) (s : State) : State := { s with seq := q }

/-- `HDR <- h` (R22, R141). -/
def setHdr (h : Header) (s : State) : State := { s with hdr := h.word }

/-- `PBUF <- d` (R23, R147). -/
def setPbuf (d : Bytes) (s : State) : State := { s with pbuf := d }

/-- `DRAIN_CNT <- n` (R37, R150). -/
def setDrainCnt (n : Nat) (s : State) : State := { s with drainCnt := n }

/-! ## Registers -/

/-- The push of HIST_PUSH on the ring (R171): `RING[WP] <- id`, `WP <- (WP + 1) mod 20`, CNT saturating at 20. -/
def pushHistory (id : Word16) (s : State) : State :=
  { s with
    ring := s.ring.set s.wp.val id s.wp.isLt
    wp := ⟨(s.wp.val + 1) % 20, Nat.mod_lt _ (by decide)⟩
    cnt := if h : s.cnt.val < 20 then ⟨s.cnt.val + 1, Nat.succ_lt_succ h⟩ else s.cnt }

/-- The identity cache, every field at once (R34, R196). -/
def latchIdentity (r : HardwareIdentity) (s : State) : State :=
  { s with
    ident := some
      { serial := r.serialNumber
        modelKey := match r.model with
          | none => none
          | some _ => (prefix2 r.serialNumber).map (BitVec.ofNat 7)
        nch := r.channelCount } }

/-- Reset of every state element of the block (R290) to the values of R42; the environment (R291), the parameters and the
model's own fields stay. HDR, PBUF and RING take the values named in log entry 7. -/
def resetBlock (s : State) : State :=
  { s with
    src := srcDefault
    dest := none
    suid := none
    handler := false
    verbose := s.cfg.verboseReset
    hdr := State.reset.hdr
    pbuf := State.reset.pbuf
    ring := State.reset.ring
    wp := 0
    cnt := 0
    ident := none
    seq := .idle
    drainCnt := 0
    busy := false }

/-! ## The host port -/

/-- The request at the front is taken, and the environment may act before the operation starts (R61; log entry 4). -/
def takeRequest (rest : List Bytes) (s : State) : State := deliver { s with requests := rest }

/-- How the machine stops on a byte string that is no request (log entry 3). -/
def stopOn : DecodeError → Host.Outcome State Fault Refusal
  | .unknownSelector b => .refused (.unknownSelector b)
  | .truncated => .fault .truncatedRequest
  | .badFlag b => .fault (.badFlagByte b)

/-- `i` placed where step takes its next instruction: a request of the host before all others; for a frame class, the
frame's header at the front of RXBUF and a CLS_STEP to read it (log entry 18). -/
def placeInstr (i : Instr) (s : State) : State :=
  if i.fromRx then { s with rxbuf := encode i ++ s.rxbuf, requests := encode .clsStep :: s.requests }
  else { s with requests := encode i :: s.requests }

end Sys2Proof.Machine
end

