-- ==== Sys2Proof/Machine/Classifier.lean ====
section
/-! DEFINITION. The Message Classifier (41_classifier.md): the header read, the payload read, steps 2 to 5 on a frame of each
class, CLS_STEP and the bounded drain CLS_RUN; and the RXFRAME rows of the opcode table, whose meaning is what the
classifier does with a frame of that class once its header has been read (log entry 9). -/

namespace Sys2Proof.Machine

/-- `ReadPayload(n)` (R147). -/
def readPayload (length : Word16) (s : State) : Run Bytes :=
  let n := length.toNat
  let (d, s) := rxRead n (setSeq .waitPayload s)
  let s := setSeq .idle s
  if d.length < n then raise (.shortPayload n d.length) s else ret d (setPbuf d s)

/-- Step 1: the header read (R141), in the order of R148. -/
def readHeader (s : State) : Run Header :=
  let (b, s) := rxRead hdrLen (setSeq .waitHdr s)
  let s := setSeq .idle s
  match Header.ofBytes? b with
  | some h => ret h (setHdr h s)
  | none => if b.length = 0 then raise .noFrame s else raise (.shortRead b.length) s

/-- Step 2 (R142). -/
def takeHwResponse (param1 param2 dest source : Byte) (s : State) : Run FrameOutcome :=
  ret (.consumed .hwResponse) (notify .hwResponse (shortMessage idHwResponse param1 param2 dest source) s)

/-- Step 3 (R143). -/
def takeHwRichResponse (length : Word16) (dest source : Byte) (s : State) : Run FrameOutcome :=
  (readPayload length s).andThen fun data s =>
    ret (.consumed .hwRichResponse) (notify .hwRichResponse (longMessage idHwRichResponse length dest source data) s)

/-- Step 4 (R144): the payload is read before the handler is asked for (R154). -/
def takeStatusUpdate (id length : Word16) (dest source : Byte) (s : State) : Run FrameOutcome :=
  (readPayload length s).andThen fun data s =>
    if s.handler then ret (.consumed .statusUpdate) (emitStatus (longMessage id length dest source data) s)
    else raise (.noStatusHandler id) s

/-- Step 5, long branch (R145). -/
def takeAnswerLong (id length : Word16) (dest source : Byte) (s : State) : Run FrameOutcome :=
  (readPayload length s).andThen fun data s => ret (.answer (longMessage id length dest source data)) s

/-- Step 5, short branch (R147). -/
def takeAnswerShort (id : Word16) (param1 param2 dest source : Byte) (s : State) : Run FrameOutcome :=
  ret (.answer (shortMessage id param1 param2 dest source)) s

/-- What the classifier does with a frame of each class. -/
def takeFrame : Frame → State → Run FrameOutcome
  | .hwResponse p1 p2 d c, s => takeHwResponse p1 p2 d c s
  | .hwRichResponse l d c, s => takeHwRichResponse l d c s
  | .statusUpdate i l d c, s => takeStatusUpdate i l d c s
  | .answerLong i l d c, s => takeAnswerLong i l d c s
  | .answerShort i p1 p2 d c, s => takeAnswerShort i p1 p2 d c s

/-- One frame (R148): read the header, classify it (R95), take the frame. -/
def clsStep (s : State) : Run FrameOutcome :=
  (readHeader s).andThen fun h s => takeFrame (classify s.frameContext h) s

/-- What the loop does with the outcome of one frame (R150): an answer ends it; after a consumed frame it goes on. -/
def onFrame (goOn : State → Run Message) (o : FrameOutcome) (s : State) : Run Message :=
  match o with
  | .answer m => ret m s
  | .consumed _ => goOn s

/-- The drain loop (R150) with `left = DRAIN_MAX - DRAIN_CNT` further frames it may consume: the frame consumed when
DRAIN_CNT = DRAIN_MAX is processed and then raises DrainExhausted (R151). -/
def drain : Nat → State → Run Message
  | 0, s => (clsStep s).andThen (onFrame fun s => raise (.drainExhausted s.drainCnt) s)
  | left + 1, s => (clsStep s).andThen (onFrame fun s => drain left (setDrainCnt (s.drainCnt + 1) s))

/-- CLS_RUN (R150). -/
def clsRun (s : State) : Run Message := drain s.cfg.drainMax (setDrainCnt 0 s)

/-- CLS_STEP (R148). -/
def execClsStep (s : State) : Host.Outcome State Fault Refusal := transact .frame clsStep s

/-- CLS_RUN (R150). -/
def execClsRun (s : State) : Host.Outcome State Fault Refusal := transact .message clsRun s

/-! ## The RXFRAME rows -/

/-- A frame of class HW_RESPONSE whose header has been read (R142). -/
def execHwResponse (param1 param2 dest source : Byte) (s : State) : Host.Outcome State Fault Refusal :=
  transact .frame
    (fun s => takeHwResponse param1 param2 dest source (setHdr (.short idHwResponse param1 param2 dest source) s)) s

/-- A frame of class HW_RICHRESPONSE whose header has been read (R143). -/
def execHwRichResponse (length : Word16) (dest source : Byte) (s : State) : Host.Outcome State Fault Refusal :=
  transact .frame
    (fun s => takeHwRichResponse length dest source (setHdr (.long idHwRichResponse length dest source) s)) s

/-- A frame of class STATUS_UPDATE whose header has been read (R144). -/
def execStatusUpdate (id length : Word16) (dest source : Byte) (s : State) : Host.Outcome State Fault Refusal :=
  transact .frame (fun s => takeStatusUpdate id length dest source (setHdr (.long id length dest source) s)) s

/-- A frame of class ANSWER_LONG whose header has been read (R145). -/
def execAnswerLong (id length : Word16) (dest source : Byte) (s : State) : Host.Outcome State Fault Refusal :=
  transact .frame (fun s => takeAnswerLong id length dest source (setHdr (.long id length dest source) s)) s

/-- A frame of class ANSWER_SHORT whose header has been read (R147). -/
def execAnswerShort (id : Word16) (param1 param2 dest source : Byte) (s : State) : Host.Outcome State Fault Refusal :=
  transact .frame
    (fun s => takeAnswerShort id param1 param2 dest source (setHdr (.short id param1 param2 dest source) s)) s

end Sys2Proof.Machine
end

