-- ==== Sys2Proof/Machine/Codec.lean ====
section
/-! DEFINITION. The reserved operation select (R105) and the Frame Header Codec (40_codec.md). -/

namespace Sys2Proof.Machine

/-- OPSEL 0x0: NotSupported(ReservedOp), no state change (R105, R258). -/
def execReserved (s : State) : Host.Outcome State Fault Refusal :=
  transact (fun _ : Unit => .done) (raise (.reservedOp 0)) s

/-- ENC_SHORT on bytes (R121). -/
def encodeShort (id : Word16) (p1 p2 dest source : Byte) : Bytes := (Header.short id p1 p2 dest source).bytes

/-- The header of an operand, or FrameError(ShortRead) when it is shorter than 6 bytes (R122, R123). -/
def headerOf (b : Bytes) (s : State) : Run Header := orRaise (Header.ofBytes? b) (.shortRead b.length) s

/-- ENC_SHORT (R121). -/
def execEncShort (id : Word16) (p1 p2 dest source : Byte) (s : State) : Host.Outcome State Fault Refusal :=
  transact .bytes (ret (encodeShort id p1 p2 dest source)) s

/-- DEC_LONG (R122). -/
def execDecLong (b : Bytes) (s : State) : Host.Outcome State Fault Refusal :=
  transact (fun h : Header => .longHeader h.id h.length h.dest h.source) (headerOf b) s

/-- DEC_SHORT (R123). -/
def execDecShort (b : Bytes) (s : State) : Host.Outcome State Fault Refusal :=
  transact (fun h : Header => .shortHeader h.id h.param1 h.param2 h.dest h.source) (headerOf b) s

end Sys2Proof.Machine
end

