-- ==== Sys2Proof/Machine/History.lean ====
section
/-! DEFINITION. The Command History operations (42_history.md). -/

namespace Sys2Proof.Machine

/-- HIST_PUSH (R171). -/
def execHistPush (id : Word16) (s : State) : Host.Outcome State Fault Refusal :=
  transact (fun _ : Unit => .done) (fun s => ret () (pushHistory id s)) s

/-- HIST_LAST (R172): none is a result, not an error. -/
def execHistLast (s : State) : Host.Outcome State Fault Refusal :=
  transact .last (fun s => ret s.newest s) s

end Sys2Proof.Machine
end

