-- ==== Sys2Proof/Machine/Identity.lean ====
section
/-! DEFINITION. The Hardware Identity Decoder operations (43_identity.md). -/

namespace Sys2Proof.Machine

/-- HWI_DECODE (R190) with its length check (R189). -/
def decodeIdentity (p : Bytes) (s : State) : Run HardwareIdentity :=
  if p.length = hwinfoLen then ret (unpackIdentity s.cfg p) s else raise (.badInfoLength p.length) s

/-- HWI_LATCH (R196): an error leaves the cache as it was. -/
def decodeAndLatch (p : Bytes) (s : State) : Run HardwareIdentity :=
  (decodeIdentity p s).andThen fun r s => ret r (latchIdentity r s)

/-- HWI_DECODE (R190). -/
def execHwiDecode (payload : Bytes) (s : State) : Host.Outcome State Fault Refusal :=
  transact .identity (decodeIdentity payload) s

/-- MODEL_LOOKUP (R193). -/
def execModelLookup (serial : Word32) (s : State) : Host.Outcome State Fault Refusal :=
  transact .model (fun s => ret (lookupModel s.cfg.modelTable serial) s) s

/-- HWI_LATCH (R196). -/
def execHwiLatch (payload : Bytes) (s : State) : Host.Outcome State Fault Refusal :=
  transact .identity (decodeAndLatch payload) s

end Sys2Proof.Machine
end

