-- ==== Sys2Proof/Machine/Sequences.lean ====
section
/-! DEFINITION. The host sequences (45_host_sequences.md), the spec's pseudo-operations (R107). The lock is held over the
whole sequence (R72). -/

namespace Sys2Proof.Machine

/-- The configuration check (R225): DEST, or ConfigurationError(NoDestination) while DEST_SET = 0. -/
def needDest (s : State) : Run Byte := orRaise s.dest .noDestination s

/-- `HIST_PUSH(id); TxWrite(ENC_SHORT(id, param1, param2, DEST, SRC))` (R226 to R228). -/
def pushAndSend (id : Word16) (param1 param2 dest : Byte) (s : State) : State :=
  let s := pushHistory id s
  txWrite (encodeShort id param1 param2 dest s.src) s

/-- The body of QUERY (R227): check, flush, push, send, CLS_RUN. -/
def runQuery (id : Word16) (param1 param2 : Byte) (s : State) : Run Message :=
  (needDest s).andThen fun dest s => clsRun (pushAndSend id param1 param2 dest (rxFlush s))

/-- The body of WRITE (R228): check, push, send; no flush, no read. -/
def runWrite (id : Word16) (param1 param2 : Byte) (s : State) : Run Unit :=
  (needDest s).andThen fun dest s => ret () (pushAndSend id param1 param2 dest s)

/-- The payload of a long-form message; ProtocolViolation(InfoNotLong) for a short-form one (R230). -/
def longBytes (m : Message) (s : State) : Run Bytes :=
  match m.body with
  | .longData _ bytes => ret bytes s
  | .shortParams _ _ => raise .infoNotLong s

/-- param2 of a short-form message; ProtocolViolation(ExpectedShort) for a long-form one (R234). -/
def shortParam2 (m : Message) (s : State) : Run Byte :=
  match m.body with
  | .shortParams _ param2 => ret param2 s
  | .longData _ _ => raise .expectedShort s

/-- The body of GET_HW_INFO (R230). -/
def runGetHwInfo (s : State) : Run HardwareIdentity :=
  (runQuery idGetHwInfo 0 0 s).andThen fun m s => (longBytes m s).andThen fun p s => decodeAndLatch p s

/-- The body of SET_CHANNEL_STATE (R233): WRITE, or QUERY with its answer discarded where SETCH_ACK says so. -/
def runSetChannelState (channel : Nat) (enabled : Bool) (s : State) : Run Unit :=
  (orRaise (channelIdent channel) (.unknownChannel channel) s).andThen fun ident s =>
    match s.cfg.setchAck with
    | .write => runWrite idSetChannelState ident (encodeChannelState enabled) s
    | .query => (runQuery idSetChannelState ident (encodeChannelState enabled) s).andThen fun _ s => ret () s

/-- The body of GET_CHANNEL_STATE (R234). -/
def runGetChannelState (channel : Nat) (s : State) : Run Bool :=
  (orRaise (channelIdent channel) (.unknownChannel channel) s).andThen fun ident s =>
    (runQuery idGetChannelState ident 0 s).andThen fun m s =>
      (shortParam2 m s).andThen fun b s => orRaise (decodeChannelState b) (.badChannelState b) s

/-- QUERY (R227). -/
def execQuery (id : Word16) (param1 param2 : Byte) (s : State) : Host.Outcome State Fault Refusal :=
  transact .message (runQuery id param1 param2) s

/-- WRITE (R228). -/
def execWrite (id : Word16) (param1 param2 : Byte) (s : State) : Host.Outcome State Fault Refusal :=
  transact (fun _ : Unit => .done) (runWrite id param1 param2) s

/-- GET_HW_INFO (R230). -/
def execGetHwInfo (s : State) : Host.Outcome State Fault Refusal := transact .identity runGetHwInfo s

/-- SET_CHANNEL_STATE (R233). -/
def execSetChannelState (channel : Nat) (enabled : Bool) (s : State) : Host.Outcome State Fault Refusal :=
  transact (fun _ : Unit => .done) (runSetChannelState channel enabled) s

/-- GET_CHANNEL_STATE (R234). -/
def execGetChannelState (channel : Nat) (s : State) : Host.Outcome State Fault Refusal :=
  transact .channelState (runGetChannelState channel) s

end Sys2Proof.Machine
end

