-- ==== Sys2Proof/Machine/System.lean ====
section
/-! DEFINITION. The configuration and register-access operations (44_config.md). -/

namespace Sys2Proof.Machine

/-- `SRC <- source.value` where a source is given (R210). -/
def setSrc (source : Option Byte) (s : State) : State := { s with src := source.getD s.src }

/-- `DEST <- d; DEST_SET <- 1` (R210). -/
def setDest (d : Byte) (s : State) : State := { s with dest := some d }

/-- The body of INIT (R210): reset, SRC, then the destination or ConfigurationError(NoDestination). -/
def initBlock (source destination : Option Byte) (s : State) : Run Unit :=
  (orRaise destination .noDestination (setSrc source (resetBlock s))).andThen fun d s => ret () (setDest d s)

/-- INIT (R210). -/
def execInit (source destination : Option Byte) (s : State) : Host.Outcome State Fault Refusal :=
  transact (fun _ : Unit => .done) (initBlock source destination) s

/-- SET_SUID (R212). -/
def execSetSuid (v : Option Word16) (s : State) : Host.Outcome State Fault Refusal :=
  transact (fun _ : Unit => .done) (fun s => ret () { s with suid := v }) s

/-- SET_HANDLER (R213). -/
def execSetHandler (present : Bool) (s : State) : Host.Outcome State Fault Refusal :=
  transact (fun _ : Unit => .done) (fun s => ret () { s with handler := present }) s

/-- SET_VERBOSE (R214). -/
def execSetVerbose (on : Bool) (s : State) : Host.Outcome State Fault Refusal :=
  transact (fun _ : Unit => .done) (fun s => ret () { s with verbose := on }) s

/-- CR_RD (R215): NotSupported(BadRegister) for a reserved number. -/
def execCrRd (n : Nat) (s : State) : Host.Outcome State Fault Refusal :=
  transact .value (fun s => orRaise (s.controlRegister n) (.badRegister n) s) s

end Sys2Proof.Machine
end

