-- ==== Sys2Proof/Machine/Dispatch.lean ====
section
/-! DEFINITION. One arm per row of the opcode table, each a call of its meaning. -/

namespace Sys2Proof.Machine

def exec (i : Instr) (s : State) : Host.Outcome State Fault Refusal :=
  match i with
  | .reserved => Sys2Proof.Machine.execReserved s
  | .encShort id p1 p2 dest source => Sys2Proof.Machine.execEncShort id p1 p2 dest source s
  | .decLong b => Sys2Proof.Machine.execDecLong b s
  | .decShort b => Sys2Proof.Machine.execDecShort b s
  | .clsStep => Sys2Proof.Machine.execClsStep s
  | .clsRun => Sys2Proof.Machine.execClsRun s
  | .histPush id => Sys2Proof.Machine.execHistPush id s
  | .histLast => Sys2Proof.Machine.execHistLast s
  | .hwiDecode payload => Sys2Proof.Machine.execHwiDecode payload s
  | .modelLookup serial => Sys2Proof.Machine.execModelLookup serial s
  | .hwiLatch payload => Sys2Proof.Machine.execHwiLatch payload s
  | .init source destination => Sys2Proof.Machine.execInit source destination s
  | .setSuid v => Sys2Proof.Machine.execSetSuid v s
  | .setHandler present => Sys2Proof.Machine.execSetHandler present s
  | .setVerbose on => Sys2Proof.Machine.execSetVerbose on s
  | .crRd n => Sys2Proof.Machine.execCrRd n s
  | .hwResponse p1 p2 dest source => Sys2Proof.Machine.execHwResponse p1 p2 dest source s
  | .hwRichResponse length dest source => Sys2Proof.Machine.execHwRichResponse length dest source s
  | .statusUpdate id length dest source => Sys2Proof.Machine.execStatusUpdate id length dest source s
  | .answerLong id length dest source => Sys2Proof.Machine.execAnswerLong id length dest source s
  | .answerShort id p1 p2 dest source => Sys2Proof.Machine.execAnswerShort id p1 p2 dest source s
  | .query id p1 p2 => Sys2Proof.Machine.execQuery id p1 p2 s
  | .write id p1 p2 => Sys2Proof.Machine.execWrite id p1 p2 s
  | .getHwInfo => Sys2Proof.Machine.execGetHwInfo s
  | .setChannelState channel enabled => Sys2Proof.Machine.execSetChannelState channel enabled s
  | .getChannelState channel => Sys2Proof.Machine.execGetChannelState channel s

end Sys2Proof.Machine
end

