-- ==== Sys2Proof/Machine/Step.lean ====
section
/-! DEFINITION. One step of the machine: the request at the front of the host port, decoded and executed. -/

namespace Sys2Proof.Machine

/-- One step. While BUSY = 1 a request is held (R38, R72) and with no request the block does nothing (R292): only the
environment acts. Otherwise the request at the front is taken and its operation runs. -/
def step (s : State) : Host.Outcome State Fault Refusal :=
  if s.busy then .next (deliver s)
  else
    match s.requests with
    | [] => .next (deliver s)
    | r :: rest =>
      match decodeRequest r with
      | .ok (i, _) => exec i (takeRequest rest s)
      | .error e => stopOn e

/-- The instruction of a word of the opcode table placed where step takes its next one (log entry 18); a word the decoder
refuses changes nothing. -/
def State.withFetchWord (s : State) (nbits w : Nat) : State :=
  match decodeTableWord nbits w with
  | some i => placeInstr i s
  | none => s

end Sys2Proof.Machine
end

