-- ==== Sys2Proof/WellFormed.lean ====
section
/-! DEFINITION. The static checks on an instruction: what its encoding can carry. -/

namespace Sys2Proof

/-- A byte-sequence operand has a length the host port's 32-bit count can carry (log entry 2). -/
def bytesFit (b : Bytes) : Bool := decide (b.length < 4294967296)

/-- A register or channel number fits the host port's 32-bit number (log entry 2). -/
def numberFits (n : Nat) : Bool := decide (n < 4294967296)

/-- The id reaches steps 4 and 5 of the classifier: steps 2 and 3 come first (R140, R149 (a)). -/
def idPastNotifications (id : Word16) : Bool := decide (id ≠ idHwResponse) && decide (id ≠ idHwRichResponse)

/-- An instruction that some word of its row encodes. -/
def Instr.wf : Instr → Bool
  | .reserved => true
  | .encShort _ _ _ _ _ => true
  | .decLong b => bytesFit b
  | .decShort b => bytesFit b
  | .clsStep => true
  | .clsRun => true
  | .histPush _ => true
  | .histLast => true
  | .hwiDecode payload => bytesFit payload
  | .modelLookup _ => true
  | .hwiLatch payload => bytesFit payload
  | .init _ _ => true
  | .setSuid _ => true
  | .setHandler _ => true
  | .setVerbose _ => true
  | .crRd n => numberFits n
  | .hwResponse _ _ _ _ => true
  | .hwRichResponse _ _ _ => true
  | .statusUpdate id _ _ _ => idPastNotifications id
  | .answerLong id _ _ _ => idPastNotifications id
  | .answerShort id _ _ _ _ => idPastNotifications id
  | .query _ _ _ => true
  | .write _ _ _ => true
  | .getHwInfo => true
  | .setChannelState channel _ => numberFits channel
  | .getChannelState channel => numberFits channel

end Sys2Proof
end

