-- ==== Sys2Proof/Safety.lean ====
section
/-! DEFINITION. The terms claims use: the invariant of the block, the state groups an operation may write (the column "state
written" of R104), which errors an operation may end with (R260), frames on the wire, and what a host must keep (R229,
R293 to R304). -/

namespace Sys2Proof.Machine

/-! ## The invariant -/

/-- A message whose long body has the length its header said (R14). -/
def Message.sized (m : Message) : Bool :=
  match m.body with
  | .shortParams _ _ => true
  | .longData length bytes => decide (bytes.length = length.toNat)

/-- A notification as steps 2 and 3 make them (R142, R143). -/
def noteOk (e : NoteKind × Message) : Bool :=
  match e.1, e.2.body with
  | .hwResponse, .shortParams _ _ => decide (e.2.id = idHwResponse)
  | .hwRichResponse, .longData _ _ => decide (e.2.id = idHwRichResponse) && e.2.sized
  | .hwResponse, .longData _ _ => false
  | .hwRichResponse, .shortParams _ _ => false

/-- A status update as step 4 makes them (R144): long-form, with an id past the notifications (R149). -/
def statusOk (m : Message) : Bool :=
  match m.body with
  | .shortParams _ _ => false
  | .longData _ _ => m.sized && idPastNotifications m.id

/-- The cached model key is the serial number's prefix and a key of the Model Table; without one the model is unknown (R33,
R196). -/
def cacheOk (c : Config) (k : IdCache) : Bool :=
  match k.modelKey with
  | some m => decide (prefix2 k.serial = some m.toNat) && (c.modelTable.lookup m.toNat).isSome
  | none => decide (lookupModel c.modelTable k.serial = none)

/-- What holds of the block between operations. -/
structure State.Inv (s : State) : Prop where
  /-- The parameters meet R9. -/
  cfg : s.cfg.wf = true
  /-- SEQ is IDLE outside CLS_STEP (R36). -/
  seq : s.seq = .idle
  /-- The lock is free outside a transaction (R38, R72). -/
  busy : s.busy = false
  /-- DRAIN_CNT lies in 0..DRAIN_MAX (R37). -/
  drainCnt : s.drainCnt ≤ s.cfg.drainMax
  /-- PBUF holds 0 to 65535 bytes (R23). -/
  pbuf : s.pbuf.length ≤ 65535
  /-- Until the ring is full, the next slot is the one after the CNT valid ones (R31). -/
  ring : s.cnt.val < 20 → s.wp.val = s.cnt.val
  /-- The identity cache is consistent with the Model Table. -/
  ident : ∀ k, s.ident = some k → cacheOk s.cfg k = true
  /-- TX is written in units of exactly 6 bytes (R62). -/
  txlog : s.txlog.length % 6 = 0
  /-- Every notification is one of step 2 or step 3. -/
  notelog : ∀ e ∈ s.notelog, noteOk e = true
  /-- Every status update is one of step 4. -/
  statuslog : ∀ m ∈ s.statuslog, statusOk m = true

/-! ## Frames: what an operation may write -/

/-- The groups of state an operation's rule says it writes or leaves. -/
inductive Group
  | params
  | src
  | dest
  | suid
  | handler
  | verbose
  | header
  | payload
  | history
  | cache
  | sequencer
  | drainCount
  | rx
  | tx
  | notes
  | statuses
  | requests
  deriving DecidableEq, Repr

/-- The group holds the same in both states. -/
def Group.same : Group → State → State → Prop
  | .params, s, t => t.cfg = s.cfg
  | .src, s, t => t.src = s.src
  | .dest, s, t => t.dest = s.dest
  | .suid, s, t => t.suid = s.suid
  | .handler, s, t => t.handler = s.handler
  | .verbose, s, t => t.verbose = s.verbose
  | .header, s, t => t.hdr = s.hdr
  | .payload, s, t => t.pbuf = s.pbuf
  | .history, s, t => t.ring = s.ring ∧ t.wp = s.wp ∧ t.cnt = s.cnt
  | .cache, s, t => t.ident = s.ident
  | .sequencer, s, t => t.seq = s.seq
  | .drainCount, s, t => t.drainCnt = s.drainCnt
  | .rx, s, t => t.rxbuf = s.rxbuf ∧ t.incoming = s.incoming
  | .tx, s, t => t.txlog = s.txlog
  | .notes, s, t => t.notelog = s.notelog
  | .statuses, s, t => t.statuslog = s.statuslog
  | .requests, s, t => t.requests = s.requests

/-- What CLS_STEP writes (R148): HDR, PBUF, SEQ, RX, NOTE_OUT, STATUS_OUT. -/
def clsStepWrites : List Group := [.header, .payload, .sequencer, .rx, .notes, .statuses]

/-- What CLS_RUN writes (R150): as CLS_STEP, and DRAIN_CNT. -/
def clsRunWrites : List Group := .drainCount :: clsStepWrites

/-- What the reset inside INIT writes (R210, R290); the environment is not touched (R291). -/
def initWrites : List Group :=
  [.src, .dest, .suid, .handler, .verbose, .header, .payload, .history, .cache, .sequencer, .drainCount]

/-- The groups an instruction may write: the column "state written" of R104, the rules of the frame classes, and the
expansions of R107. -/
def instrWrites : Instr → List Group
  | .reserved => []
  | .encShort _ _ _ _ _ => []
  | .decLong _ => []
  | .decShort _ => []
  | .clsStep => clsStepWrites
  | .clsRun => clsRunWrites
  | .histPush _ => [.history]
  | .histLast => []
  | .hwiDecode _ => []
  | .modelLookup _ => []
  | .hwiLatch _ => [.cache]
  | .init _ _ => initWrites
  | .setSuid _ => [.suid]
  | .setHandler _ => [.handler]
  | .setVerbose _ => [.verbose]
  | .crRd _ => []
  | .hwResponse _ _ _ _ => [.header, .notes]
  | .hwRichResponse _ _ _ => [.header, .payload, .sequencer, .rx, .notes]
  | .statusUpdate _ _ _ _ => [.header, .payload, .sequencer, .rx, .statuses]
  | .answerLong _ _ _ _ => [.header, .payload, .sequencer, .rx]
  | .answerShort _ _ _ _ _ => [.header]
  | .query _ _ _ => .history :: .tx :: clsRunWrites
  | .write _ _ _ => [.history, .tx]
  | .getHwInfo => .cache :: .history :: .tx :: clsRunWrites
  | .setChannelState _ _ => .history :: .tx :: clsRunWrites
  | .getChannelState _ => .history :: .tx :: clsRunWrites

/-! ## Errors -/

/-- The errors of a payload read and of step 4 (R147, R144). -/
def payloadErrors : ErrorKind → Bool
  | .shortPayload _ _ => true
  | _ => false

/-- The errors CLS_STEP may end with (R260). -/
def clsStepErrors : ErrorKind → Bool
  | .noFrame => true
  | .shortRead _ => true
  | .shortPayload _ _ => true
  | .noStatusHandler _ => true
  | _ => false

/-- The errors CLS_RUN may end with (R260). -/
def clsRunErrors : ErrorKind → Bool
  | .drainExhausted _ => true
  | e => clsStepErrors e

/-- The errors QUERY may end with (R260). -/
def queryErrors : ErrorKind → Bool
  | .noDestination => true
  | e => clsRunErrors e

/-- The errors SET_CHANNEL_STATE may end with after its channel check: those of WRITE (R260), or those of QUERY where
SETCH_ACK makes it one (R233). -/
def setChannelErrors : SetchAck → ErrorKind → Bool
  | .write, .noDestination => true
  | .write, _ => false
  | .query, e => queryErrors e

/-- Which instruction may end with which error: the table of R260, with a frame class read as CLS_STEP after its header. -/
def mayRaise (ack : SetchAck) : Instr → ErrorKind → Bool
  | .reserved, .reservedOp _ => true
  | .decLong _, .shortRead _ => true
  | .decShort _, .shortRead _ => true
  | .clsStep, e => clsStepErrors e
  | .clsRun, e => clsRunErrors e
  | .hwiDecode _, .badInfoLength _ => true
  | .hwiLatch _, .badInfoLength _ => true
  | .init _ _, .noDestination => true
  | .crRd _, .badRegister _ => true
  | .hwRichResponse _ _ _, e => payloadErrors e
  | .statusUpdate _ _ _ _, .noStatusHandler _ => true
  | .statusUpdate _ _ _ _, e => payloadErrors e
  | .answerLong _ _ _ _, e => payloadErrors e
  | .query _ _ _, e => queryErrors e
  | .write _ _ _, .noDestination => true
  | .getHwInfo, .infoNotLong => true
  | .getHwInfo, .badInfoLength _ => true
  | .getHwInfo, e => queryErrors e
  | .setChannelState _ _, .unknownChannel _ => true
  | .setChannelState _ _, e => setChannelErrors ack e
  | .getChannelState _, .unknownChannel _ => true
  | .getChannelState _, .expectedShort => true
  | .getChannelState _, .badChannelState _ => true
  | .getChannelState _, e => queryErrors e
  | _, _ => false

/-! ## Replies and frames on the wire -/

/-- The state with one more reply handed back and the lock free: all an operation does that writes no state (R72, R251). -/
def handsBack (r : Reply) (s : State) : State := { s with busy := false, replies := s.replies ++ [r] }

/-- The state a read of `n` bytes finds when it is answered: a read of more than 0 bytes waits, and the environment may act
(R64). -/
def atRead (n : Nat) (s : State) : State := if n = 0 then s else deliver s

/-- The state after a read of `n` bytes in the classifier, answered in full or short: SEQ is back at IDLE (R36). -/
def afterRead (n : Nat) (s : State) : State :=
  { atRead n s with rxbuf := (atRead n s).rxbuf.drop n, seq := .idle }

/-- The number of payload bytes that follow a header of the class (R95). -/
def framePayloadLength : Frame → Nat
  | .hwResponse _ _ _ _ => 0
  | .hwRichResponse l _ _ => l.toNat
  | .statusUpdate _ l _ _ => l.toNat
  | .answerLong _ l _ _ => l.toNat
  | .answerShort _ _ _ _ _ => 0

/-- A whole frame as it lies in RXBUF: its header and its payload (R90). -/
def wire (f : Frame) (payload : Bytes) : Bytes := f.header.bytes ++ payload

/-- A payload fits the frame's class: as many bytes as the class says follow the header. -/
def fits (f : Frame) (payload : Bytes) : Bool := decide (payload.length = framePayloadLength f)

/-- The message a frame with its payload is (R14). -/
def frameMessage : Frame → Bytes → Message
  | .hwResponse p1 p2 d c, _ => ⟨idHwResponse, d, c, .shortParams p1 p2⟩
  | .hwRichResponse l d c, data => ⟨idHwRichResponse, d, c, .longData l data⟩
  | .statusUpdate i l d c, data => ⟨i, d, c, .longData l data⟩
  | .answerLong i l d c, data => ⟨i, d, c, .longData l data⟩
  | .answerShort i p1 p2 d c, _ => ⟨i, d, c, .shortParams p1 p2⟩

/-- The outcome of the classifier on a frame of each class with its payload (R140). -/
def frameOutcome (f : Frame) (data : Bytes) : FrameOutcome :=
  match f with
  | .hwResponse _ _ _ _ => .consumed .hwResponse
  | .hwRichResponse _ _ _ => .consumed .hwRichResponse
  | .statusUpdate _ _ _ _ => .consumed .statusUpdate
  | .answerLong _ _ _ _ => .answer (frameMessage f data)
  | .answerShort _ _ _ _ _ => .answer (frameMessage f data)

/-- An unsolicited frame: consumed by steps 2 to 4 (R17). -/
def unsolicited : Frame → Bool
  | .hwResponse _ _ _ _ => true
  | .hwRichResponse _ _ _ => true
  | .statusUpdate _ _ _ _ => true
  | .answerLong _ _ _ _ => false
  | .answerShort _ _ _ _ _ => false

/-- The events a frame causes on NOTE_OUT (R142, R143; only with VERBOSE = 1, R29). -/
def noteEvents (verbose : Bool) (f : Frame) (data : Bytes) : List (NoteKind × Message) :=
  match f with
  | .hwResponse _ _ _ _ => if verbose then [(.hwResponse, frameMessage f data)] else []
  | .hwRichResponse _ _ _ => if verbose then [(.hwRichResponse, frameMessage f data)] else []
  | .statusUpdate _ _ _ _ => []
  | .answerLong _ _ _ _ => []
  | .answerShort _ _ _ _ _ => []

/-- The events a frame causes on STATUS_OUT (R144). -/
def statusEvents (f : Frame) (data : Bytes) : List Message :=
  match f with
  | .hwResponse _ _ _ _ => []
  | .hwRichResponse _ _ _ => []
  | .statusUpdate _ _ _ _ => [frameMessage f data]
  | .answerLong _ _ _ _ => []
  | .answerShort _ _ _ _ _ => []

/-- The class has the long layout: a payload follows the header (R95). -/
def longForm : Frame → Bool
  | .hwResponse _ _ _ _ => false
  | .hwRichResponse _ _ _ => true
  | .statusUpdate _ _ _ _ => true
  | .answerLong _ _ _ _ => true
  | .answerShort _ _ _ _ _ => false

/-- The state after the classifier has taken a whole frame, `rest` being what lies in RXBUF behind it (R141 to R147). -/
def afterFrame (f : Frame) (data rest : Bytes) (s : State) : State :=
  { s with
    hdr := f.header.word
    pbuf := if longForm f then data else s.pbuf
    seq := .idle
    rxbuf := rest
    notelog := s.notelog ++ noteEvents s.verbose f data
    statuslog := s.statuslog ++ statusEvents f data }

/-- What a frame's class sends to NOTE_OUT with VERBOSE = 1 once its header has been read (R142, R143): the event is emitted
after the payload, so a payload that arrives short causes none (R147). -/
def frameNotes (f : Frame) (s : State) : List (NoteKind × Message) :=
  if (atRead (framePayloadLength f) s).rxbuf.length < framePayloadLength f then []
  else noteEvents true f ((atRead (framePayloadLength f) s).rxbuf.take (framePayloadLength f))

/-- What one CLS_STEP sends to NOTE_OUT with VERBOSE = 1 (R148): its frame's events, none where no header is read. -/
def stepNotes (s : State) : List (NoteKind × Message) :=
  match Header.ofBytes? (atRead 6 s).rxbuf with
  | some h => frameNotes (classify s.frameContext h) (afterRead 6 s)
  | none => []

/-- The last reply says that a frame was consumed (R140). -/
def consumedLast (s : State) : Bool :=
  match s.replies.getLast? with
  | some (.frame (.consumed _)) => true
  | _ => false

/-- What at most `left + 1` CLS_STEPs send to NOTE_OUT with VERBOSE = 1, each after one that consumed its frame (R150). -/
def runNotes : Nat → State → List (NoteKind × Message)
  | 0, s => stepNotes s
  | left + 1, s => stepNotes s ++
    match exec .clsStep s with
    | .next t => if consumedLast t then runNotes left t else []
    | .fault _ => []
    | .refused _ => []

/-- What CLS_STEP, CLS_RUN or a frame class sends to NOTE_OUT with VERBOSE = 1: steps 2 and 3 alone emit (R214). It is asked of
these instructions only. -/
def notesOf (i : Instr) (s : State) : List (NoteKind × Message) :=
  match i with
  | .clsStep => stepNotes s
  | .clsRun => runNotes s.cfg.drainMax s
  | .hwResponse p1 p2 d c => frameNotes (.hwResponse p1 p2 d c) s
  | .hwRichResponse l d c => frameNotes (.hwRichResponse l d c) s
  | .statusUpdate _ _ _ _ => []
  | .answerLong _ _ _ _ => []
  | .answerShort _ _ _ _ _ => []
  | _ => []

/-- What GET_CHANNEL_STATE replies to an answer of this form (R232, R234). -/
def channelReply : Body → Reply
  | .shortParams _ p2 =>
    if p2 = 0x01 then .channelState true else if p2 = 0x02 then .channelState false else .error (.badChannelState p2)
  | .longData _ _ => .error .expectedShort

/-- Whole frames one behind the other. -/
def wires (l : List (Frame × Bytes)) : Bytes := l.flatMap fun p => wire p.1 p.2

/-- A frame arrives whole and is of its class in context `c`; a status update finds a handler (R144, R154). -/
def goodFrame (c : FrameContext) (handler : Bool) (p : Frame × Bytes) : Bool :=
  decide (classify c p.1.header = p.1) && fits p.1 p.2 &&
    match p.1 with
    | .hwResponse _ _ _ _ => true
    | .hwRichResponse _ _ _ => true
    | .statusUpdate _ _ _ _ => handler
    | .answerLong _ _ _ _ => true
    | .answerShort _ _ _ _ _ => true

/-- A push on the abstract history (R171): the oldest entry goes when there are 20. -/
def appendCapped (h : List Word16) (id : Word16) : List Word16 := (if h.length = 20 then h.drop 1 else h) ++ [id]

/-- The context of classification once `id` has been pushed (R94, R296). -/
def contextAfterPush (s : State) (id : Word16) : FrameContext := ⟨s.suid, some id, s.cfg.longtestSrc, s.src⟩

/-- The six bytes of the frame that a request with this id and these parameters sends (R100, R226). -/
def requestBytes (id : Word16) (p1 p2 dest source : Byte) : Bytes :=
  [BitVec.ofNat 8 id.toNat, BitVec.ofNat 8 (id.toNat / 256), p1, p2, dest, source]

/-- An optional field with its valid bit at position `k`, as a number (R40). -/
def fieldNumber {w : Nat} (v : Option (BitVec w)) (k : Nat) : Nat :=
  match v with
  | some x => x.toNat + 2 ^ k
  | none => 0

/-- The table of R40 as numbers; none for a reserved register number (R215). -/
def crTable (s : State) (n : Nat) : Option Nat :=
  if n = 0 then some s.src.toNat
  else if n = 1 then some (fieldNumber s.dest 8)
  else if n = 2 then some (fieldNumber s.suid 16)
  else if n = 3 then some (s.handler.toNat + 2 * s.verbose.toNat)
  else if n = 4 then
    some (s.idValid.toNat + 2 * s.idModelKnown.toNat + 4 * (decide (s.hist = [])).toNat
      + 8 * (decide (s.hist.length = 20)).toNat)
  else if n = 5 then some s.hist.length
  else if n = 6 then some s.wp.val
  else if n = 7 then some (fieldNumber s.hist.getLast? 16)
  else if n = 8 then some (match s.ident with | some c => c.serial.toNat | none => 0)
  else if n = 9 then some (fieldNumber s.idPrefix 7)
  else if n = 10 then some (match s.ident with | some c => c.nch.toNat | none => 0)
  else if 16 ≤ n ∧ n ≤ 35 then some (fieldNumber s.hist[n - 16]? 16)
  else none

/-- The ids are pushed one after the other. -/
def pushAll : List Word16 → State → Host.Outcome State Fault Refusal
  | [], s => .next s
  | id :: ids, s =>
    match exec (.histPush id) s with
    | .next t => pushAll ids t
    | .fault f => .fault f
    | .refused r => .refused r

/-! ## What a host must keep -/

/-- Every request names an operation of the spec. -/
def requestsOk (s : State) : Bool :=
  s.requests.all fun r =>
    match decodeRequest r with
    | .ok _ => true
    | .error _ => false

/-- Before the first QUERY or WRITE: a destination is configured (R293 (1), R211). -/
def configured (s : State) : Bool := s.destSet

/-- A status-update id is set only where a handler is attached (R293 (2), R300). -/
def statusHandled (s : State) : Bool := !s.suidSet || s.handler

/-- The hazard of R299: the newest sent id is the status-update id, so every frame with that id counts as a status update. -/
def requestIsStatusId (s : State) : Bool := s.suidSet && decide (s.newest = s.suid)

end Sys2Proof.Machine
end

