-- ==== Sys2Proof/Certificates/Slice0/Obligations.lean ====
section
/-! DEFINITION. The statements for the provers, from the spec's numbered rules. -/

open Sys2Proof Sys2Proof.Machine

/-! ## Reset and step -/

/-- R42, R290: what reset leaves, and what the control registers then read (R40, column "reset"). -/
def Obligations.ResetLeavesTheBlockUnconfigured : Prop :=
  State.reset.src = 0x01 ∧ State.reset.destSet = false ∧ State.reset.suidSet = false ∧ State.reset.handler = false ∧
  State.reset.verbose = State.reset.cfg.verboseReset ∧ State.reset.hist = [] ∧ State.reset.cnt = 0 ∧
  State.reset.wp = 0 ∧ State.reset.idValid = false ∧ State.reset.idModelKnown = false ∧ State.reset.seq = .idle ∧
  State.reset.drainCnt = 0 ∧ State.reset.busy = false ∧
  ∀ n v, (n, v) ∈ [(0, 0x1), (1, 0x0), (2, 0x0), (3, 0x2), (4, 0x4), (5, 0x0), (6, 0x0), (7, 0x0), (8, 0x0), (9, 0x0),
      (10, 0x0), (16, 0x0), (35, 0x0)] →
    exec (.crRd n) State.reset = .next (handsBack (.value v) State.reset)

/-- A step runs the request at the front of the host port: what its bytes decode to, at the state in which the request is
taken and the environment has acted; and it stops by name on bytes that decode to nothing. The byte form of a request and
these stops are the model's choice (log entries 2, 3, 4). -/
def Obligations.StepRunsTheDecodedRequest : Prop :=
  ∀ (s : State) (r : Bytes) (rest : List Bytes), s.busy = false → s.requests = r :: rest →
    (∀ i tail, decodeRequest r = .ok (i, tail) → step s = exec i (deliver { s with requests := rest })) ∧
    (∀ b, decodeRequest r = .error (.unknownSelector b) → step s = .refused (.unknownSelector b)) ∧
    (decodeRequest r = .error .truncated → step s = .fault .truncatedRequest) ∧
    (∀ b, decodeRequest r = .error (.badFlag b) → step s = .fault (.badFlagByte b))

/-- R38, R72, R292: a request is held while BUSY = 1, and without a request the block does nothing; only the environment
acts. -/
def Obligations.StepHoldsARequestWhileBusy : Prop :=
  ∀ s : State, (s.busy = true ∨ s.requests = []) →
    ∃ t, step s = .next t ∧ t.rxbuf ++ t.incoming.flatten = s.rxbuf ++ s.incoming.flatten ∧
      t = { s with rxbuf := t.rxbuf, incoming := t.incoming }

/-- A word of the opcode table, placed by withFetchWord, runs in the next step: an operation as itself, a frame class as the
CLS_STEP that reads it from RX. How a word is placed is the model's choice (log entry 18). -/
def Obligations.PlacedWordRunsNext : Prop :=
  ∀ (s : State) (nbits w : Nat) (i : Instr), s.busy = false → decodeTableWord nbits w = some i →
    (i.fromRx = false → step (s.withFetchWord nbits w) = exec i (deliver s)) ∧
    (i.fromRx = true →
      step (s.withFetchWord nbits w) = exec .clsStep (deliver { s with rxbuf := encode i ++ s.rxbuf }))

/-! ## Codec -/

/-- R121: ENC_SHORT returns the six bytes of the short layout, which as a 48-bit word are `id + 2^16 p1 + 2^24 p2 + 2^32 dest
+ 2^40 source`; no state is written, no error. -/
def Obligations.EncShortReturnsTheSixBytes : Prop :=
  ∀ (id : Word16) (p1 p2 dest source : Byte) (s : State),
    ∃ b0 b1 : Byte, b0.toNat = id.toNat % 256 ∧ b1.toNat = id.toNat / 256 ∧
      exec (.encShort id p1 p2 dest source) s = .next (handsBack (.bytes [b0, b1, p1, p2, dest, source]) s) ∧
      (Header.mk b0 b1 p1 p2 dest source).word.toNat =
        id.toNat + 2 ^ 16 * p1.toNat + 2 ^ 24 * p2.toNat + 2 ^ 32 * dest.toNat + 2 ^ 40 * source.toNat

/-- DEC_LONG and DEC_SHORT read the first six bytes in their two layouts, little-endian; fewer than six bytes are
FrameError(ShortRead) with their number (40_codec.md). -/
def Obligations.DecodersReadTheFirstSixBytes : Prop :=
  (∀ (b0 b1 b2 b3 b4 b5 : Byte) (rest : Bytes) (s : State),
    exec (.decLong (b0 :: b1 :: b2 :: b3 :: b4 :: b5 :: rest)) s =
      .next (handsBack (.longHeader (BitVec.ofNat 16 (b0.toNat + 256 * b1.toNat))
        (BitVec.ofNat 16 (b2.toNat + 256 * b3.toNat)) b4 b5) s) ∧
    exec (.decShort (b0 :: b1 :: b2 :: b3 :: b4 :: b5 :: rest)) s =
      .next (handsBack (.shortHeader (BitVec.ofNat 16 (b0.toNat + 256 * b1.toNat)) b2 b3 b4 b5) s)) ∧
  (∀ (b : Bytes) (s : State), b.length < 6 →
    exec (.decLong b) s = .next (handsBack (.error (.shortRead b.length)) s) ∧
    exec (.decShort b) s = .next (handsBack (.error (.shortRead b.length)) s))

/-- The round trips of the codec, both ways (40_codec.md, the laws (a) and (b)). -/
def Obligations.CodecRoundTrips : Prop :=
  (∀ (id : Word16) (p1 p2 dest source : Byte) (s u : State), ∃ b : Bytes, b.length = 6 ∧
    exec (.encShort id p1 p2 dest source) s = .next (handsBack (.bytes b) s) ∧
    exec (.decShort b) u = .next (handsBack (.shortHeader id p1 p2 dest source) u)) ∧
  (∀ (b : Bytes) (s u : State), b.length = 6 → ∃ id p1 p2 dest source,
    exec (.decShort b) s = .next (handsBack (.shortHeader id p1 p2 dest source) s) ∧
    exec (.encShort id p1 p2 dest source) u = .next (handsBack (.bytes b) u))

/-- OPSEL 0x0 changes no state and raises NotSupported(ReservedOp) with the select value: the triple (6, 3, [0])
(30_encoding.md, 60_exceptions.md). -/
def Obligations.ReservedSelectIsNotSupported : Prop :=
  ∀ s : State, ∃ e, exec .reserved s = .next (handsBack (.error e) s) ∧ e.triple = (6, 3, [0])

/-! ## Classification -/

/-- R95: the class of every header, by the ordered tests, for both values of LONGTEST_SRC. -/
def Obligations.EveryHeaderFallsInItsClass : Prop :=
  ∀ (c : FrameContext) (h : Header),
    (h.id = 0x0080 → classify c h = .hwResponse h.param1 h.param2 h.dest h.source) ∧
    (h.id = 0x0081 → classify c h = .hwRichResponse h.length h.dest h.source) ∧
    (h.id ≠ 0x0080 → h.id ≠ 0x0081 → c.suid = some h.id → c.newest = some h.id →
      classify c h = .statusUpdate h.id h.length h.dest h.source) ∧
    (h.id ≠ 0x0080 → h.id ≠ 0x0081 → ¬ (c.suid = some h.id ∧ c.newest = some h.id) →
      ((match c.longtestSrc with | .hdr => h.source | .cfg => c.src) ||| 0x80) = h.dest →
      classify c h = .answerLong h.id h.length h.dest h.source) ∧
    (h.id ≠ 0x0080 → h.id ≠ 0x0081 → ¬ (c.suid = some h.id ∧ c.newest = some h.id) →
      ((match c.longtestSrc with | .hdr => h.source | .cfg => c.src) ||| 0x80) ≠ h.dest →
      classify c h = .answerShort h.id h.param1 h.param2 h.dest h.source)

/-- The long-form test as a bit pattern (30_encoding.md section 2): bit 7 of `dest` is 1 and its low seven bits are those of
the source the test uses. -/
def Obligations.LongTestComparesLowSevenBits : Prop :=
  ∀ (c : FrameContext) (dest source : Byte),
    longTest c dest source = true ↔
      dest.toNat / 128 = 1 ∧
        dest.toNat % 128 = (match c.longtestSrc with | .hdr => source | .cfg => c.src).toNat % 128

/-! ## Frames of each class -/

/-- R142: an HW_RESPONSE frame is consumed; its notification goes to NOTE_OUT only when VERBOSE = 1; no payload is read. -/
def Obligations.HwResponseIsConsumed : Prop :=
  ∀ (p1 p2 dest source : Byte) (s : State),
    exec (.hwResponse p1 p2 dest source) s =
      .next (handsBack (.frame (.consumed .hwResponse))
        { s with
          hdr := (Header.mk 0x80 0x00 p1 p2 dest source).word
          notelog := s.notelog ++
            (if s.verbose then [(.hwResponse, ⟨0x0080, dest, source, .shortParams p1 p2⟩)] else []) })

/-- R143: an HW_RICHRESPONSE frame whose payload arrives is consumed with its payload, VERBOSE or not. -/
def Obligations.HwRichResponseIsConsumed : Prop :=
  ∀ (length : Word16) (dest source : Byte) (s : State), length.toNat ≤ (atRead length.toNat s).rxbuf.length →
    ∃ t, exec (.hwRichResponse length dest source) s = .next t ∧
      t.replies = s.replies ++ [.frame (.consumed .hwRichResponse)] ∧
      t.hdr = (Header.long 0x0081 length dest source).word ∧
      t.pbuf = (atRead length.toNat s).rxbuf.take length.toNat ∧
      t.rxbuf = (atRead length.toNat s).rxbuf.drop length.toNat ∧ t.incoming = (atRead length.toNat s).incoming ∧
      t.notelog = s.notelog ++ (if s.verbose then
        [(.hwRichResponse, ⟨0x0081, dest, source, .longData length t.pbuf⟩)] else [])

/-- Step 4 on a frame whose payload arrives (41_classifier.md section 1): with a handler the message goes to STATUS_OUT,
VERBOSE or not; without one the payload is read all the same and NotSupported(NoStatusHandler) is raised. -/
def Obligations.StatusUpdateGoesToTheHandler : Prop :=
  ∀ (id length : Word16) (dest source : Byte) (s : State), length.toNat ≤ (atRead length.toNat s).rxbuf.length →
    ∃ t, exec (.statusUpdate id length dest source) s = .next t ∧
      t.hdr = (Header.long id length dest source).word ∧
      t.pbuf = (atRead length.toNat s).rxbuf.take length.toNat ∧
      t.rxbuf = (atRead length.toNat s).rxbuf.drop length.toNat ∧ t.incoming = (atRead length.toNat s).incoming ∧
      t.notelog = s.notelog ∧
      (s.handler = true → t.replies = s.replies ++ [.frame (.consumed .statusUpdate)] ∧
        t.statuslog = s.statuslog ++ [⟨id, dest, source, .longData length t.pbuf⟩]) ∧
      (s.handler = false → t.replies = s.replies ++ [.error (.noStatusHandler id)] ∧ t.statuslog = s.statuslog)

/-- R145: an ANSWER_LONG frame whose payload arrives is returned with it. -/
def Obligations.AnswerLongIsReturned : Prop :=
  ∀ (id length : Word16) (dest source : Byte) (s : State), length.toNat ≤ (atRead length.toNat s).rxbuf.length →
    ∃ t, exec (.answerLong id length dest source) s = .next t ∧
      t.replies = s.replies ++ [.frame (.answer ⟨id, dest, source, .longData length t.pbuf⟩)] ∧
      t.hdr = (Header.long id length dest source).word ∧
      t.pbuf = (atRead length.toNat s).rxbuf.take length.toNat ∧
      t.rxbuf = (atRead length.toNat s).rxbuf.drop length.toNat ∧ t.incoming = (atRead length.toNat s).incoming

/-- Step 5, short branch (41_classifier.md section 1): an ANSWER_SHORT frame is returned; nothing more is read. -/
def Obligations.AnswerShortIsReturned : Prop :=
  ∀ (id : Word16) (p1 p2 dest source : Byte) (s : State),
    exec (.answerShort id p1 p2 dest source) s =
      .next (handsBack (.frame (.answer ⟨id, dest, source, .shortParams p1 p2⟩))
        { s with hdr := (Header.short id p1 p2 dest source).word })

/-- A payload that arrives short is FrameError(ShortPayload), even when none of it arrives; the bytes that did arrive are
lost, PBUF keeps what it held and no event is emitted (41_classifier.md sections 1 and 3). -/
def Obligations.CutPayloadIsAFrameError : Prop :=
  ∀ (i : Instr) (id length : Word16) (dest source : Byte) (s : State),
    i ∈ [.hwRichResponse length dest source, .statusUpdate id length dest source, .answerLong id length dest source] →
    (atRead length.toNat s).rxbuf.length < length.toNat →
    ∃ t, exec i s = .next t ∧
      t.replies = s.replies ++ [.error (.shortPayload length.toNat (atRead length.toNat s).rxbuf.length)] ∧
      t.rxbuf = [] ∧ t.incoming = (atRead length.toNat s).incoming ∧ t.pbuf = s.pbuf ∧ t.notelog = s.notelog ∧
      t.statuslog = s.statuslog

/-! ## CLS_STEP and CLS_RUN -/

/-- CLS_STEP is the fetch and execution of one frame: with six bytes there, it runs as the frame class they decode to, after
the header has been removed from RX (41_classifier.md section 2). -/
def Obligations.ClsStepRunsTheFrameItReads : Prop :=
  ∀ (s : State) (i : Instr), decodeFrame s.frameContext (atRead 6 s).rxbuf = some i →
    exec .clsStep s = exec i { atRead 6 s with rxbuf := (atRead 6 s).rxbuf.drop 6, seq := .idle }

/-- No byte at the header read is TransportTimeout(NoFrame), one to five are FrameError(ShortRead); they are removed and
nothing else happens; CLS_STEP and CLS_RUN alike (60_exceptions.md section 2). -/
def Obligations.ShortHeaderIsTimeoutOrFrameError : Prop :=
  ∀ (s : State), (atRead 6 s).rxbuf.length < 6 →
    let e : ErrorKind := if (atRead 6 s).rxbuf = [] then .noFrame else .shortRead (atRead 6 s).rxbuf.length
    let u : State := { atRead 6 s with rxbuf := [], seq := .idle }
    exec .clsStep s = .next (handsBack (.error e) u) ∧
    exec .clsRun s = .next (handsBack (.error e) { u with drainCnt := 0 })

/-- R148: CLS_STEP on a whole frame of any class at the front of RXBUF takes exactly that frame, with the effect of its class
and no other. -/
def Obligations.ClsStepTakesOneWholeFrame : Prop :=
  ∀ (s : State) (f : Frame) (data rest : Bytes), s.incoming = [] → s.rxbuf = wire f data ++ rest →
    goodFrame s.frameContext s.handler (f, data) = true →
    exec .clsStep s = .next (handsBack (.frame (frameOutcome f data))
      { s with
        hdr := f.header.word
        pbuf := if longForm f then data else s.pbuf
        seq := .idle
        rxbuf := rest
        notelog := s.notelog ++ noteEvents s.verbose f data
        statuslog := s.statuslog ++ statusEvents f data })

/-- R150: CLS_RUN consumes the unsolicited frames before the first answer, at most DRAIN_MAX of them, emits their events in
stream order, and returns that answer, whatever follows it. -/
def Obligations.ClsRunReturnsTheFirstAnswer : Prop :=
  ∀ (s : State) (l : List (Frame × Bytes)) (a : Frame) (data rest : Bytes),
    s.incoming = [] → s.rxbuf = wires l ++ wire a data ++ rest →
    (∀ p ∈ l, unsolicited p.1 = true ∧ goodFrame s.frameContext s.handler p = true) → l.length ≤ s.cfg.drainMax →
    unsolicited a = false → goodFrame s.frameContext s.handler (a, data) = true →
    ∃ t, exec .clsRun s = .next t ∧ t.replies = s.replies ++ [.message (frameMessage a data)] ∧ t.rxbuf = rest ∧
      t.drainCnt = l.length ∧ t.hdr = a.header.word ∧
      t.notelog = s.notelog ++ l.flatMap (fun p => noteEvents s.verbose p.1 p.2) ∧
      t.statuslog = s.statuslog ++ l.flatMap (fun p => statusEvents p.1 p.2)

/-- The drain bound (41_classifier.md section 3): when DRAIN_MAX + 1 unsolicited frames lie before any answer, all of them
are processed, then TransportTimeout(DrainExhausted) is raised; what follows them stays unread. -/
def Obligations.FloodExhaustsTheDrain : Prop :=
  ∀ (s : State) (l : List (Frame × Bytes)) (rest : Bytes), s.incoming = [] → s.rxbuf = wires l ++ rest →
    (∀ p ∈ l, unsolicited p.1 = true ∧ goodFrame s.frameContext s.handler p = true) → l.length = s.cfg.drainMax + 1 →
    ∃ t, exec .clsRun s = .next t ∧ t.replies = s.replies ++ [.error (.drainExhausted s.cfg.drainMax)] ∧
      t.rxbuf = rest ∧ t.drainCnt = s.cfg.drainMax ∧
      t.notelog = s.notelog ++ l.flatMap (fun p => noteEvents s.verbose p.1 p.2) ∧
      t.statuslog = s.statuslog ++ l.flatMap (fun p => statusEvents p.1 p.2)

/-- From every state, over every stream and every arrival: CLS_RUN ends with an answer or an error, and DRAIN_CNT stays
within DRAIN_MAX (41_classifier.md section 3). -/
def Obligations.ClsRunAlwaysEndsWithinItsBound : Prop :=
  ∀ s : State, ∃ t, exec .clsRun s = .next t ∧ t.drainCnt ≤ s.cfg.drainMax ∧
    ((∃ m, t.replies = s.replies ++ [.message m]) ∨ ∃ e, t.replies = s.replies ++ [.error e])

/-- The classifier never reads DEST (10_state.md section 3). -/
def Obligations.ClassifierIgnoresTheConfiguredDestination : Prop :=
  ∀ (i : Instr) (s t : State) (d : Option Byte), (i = .clsStep ∨ i = .clsRun ∨ i.fromRx = true) → exec i s = .next t →
    exec i { s with dest := d } = .next { t with dest := d }

/-- R214: SET_VERBOSE writes VERBOSE alone, which bit 1 of CR3 reads. Whatever its value, CLS_STEP, CLS_RUN and the frame
classes leave the same state but for NOTE_OUT: with VERBOSE = 1 it gets the events of the frames taken in step 2 and step 3
(none for a status update or an answer), with VERBOSE = 0 nothing. -/
def Obligations.VerboseChangesOnlyNotifications : Prop :=
  (∀ (on : Bool) (s : State), exec (.setVerbose on) s = .next (handsBack .done { s with verbose := on }) ∧
    ∃ w : Word32, exec (.crRd 3) { s with verbose := on } = .next (handsBack (.value w) { s with verbose := on }) ∧
      w.toNat / 2 = on.toNat) ∧
  ∀ (i : Instr) (s t : State), (i = .clsStep ∨ i = .clsRun ∨ i.fromRx = true) → exec i s = .next t →
    (s.verbose = false → t.notelog = s.notelog) ∧
    ∀ b, exec i { s with verbose := b } =
      .next { t with verbose := b, notelog := s.notelog ++ if b then notesOf i s else [] }

/-- The history as discriminator (70_reset_and_hazards.md section 3): after a push of SUID every frame with that id is a
status update, one meant as the answer too; after a push of another id none is. -/
def Obligations.NewestIdDecidesStatusUpdates : Prop :=
  ∀ (s : State) (sent su : Word16) (h : Header), s.suid = some su → su ≠ 0x0080 → su ≠ 0x0081 → h.id = su →
    ∃ t, exec (.histPush sent) s = .next t ∧
      (sent = su → decodeFrame t.frameContext h.bytes = some (.statusUpdate su h.length h.dest h.source)) ∧
      (sent ≠ su → decodeFrame t.frameContext h.bytes ≠ some (.statusUpdate su h.length h.dest h.source))

/-! ## Command History -/

/-- HIST_PUSH appends to the history, and drops the oldest entry when there are 20; on the ring it writes the slot WP, moves
WP on modulo 20, and counts up to 20 (42_history.md). -/
def Obligations.HistPushAppendsAndEvicts : Prop :=
  ∀ (id : Word16) (s : State), ∃ t, exec (.histPush id) s = .next t ∧ t.replies = s.replies ++ [.done] ∧
    t.hist = (if s.hist.length = 20 then s.hist.drop 1 else s.hist) ++ [id] ∧
    t.ring = s.ring.set s.wp.val id ∧ t.wp.val = (s.wp.val + 1) % 20 ∧ t.cnt.val = min (s.cnt.val + 1) 20

/-- R172: HIST_LAST returns the most recently pushed id, or None on the empty history; no state is written. -/
def Obligations.HistLastReturnsTheNewestEntry : Prop :=
  ∀ s : State, exec .histLast s = .next (handsBack (.last s.hist.getLast?) s)

/-- The capacity law (42_history.md): after any series of pushes on an empty history, the history is the last 20 of them in
push order, or all of them when there are fewer. -/
def Obligations.HistoryKeepsTheLastTwenty : Prop :=
  ∀ (ids : List Word16) (s : State), s.hist = [] →
    ∃ t, pushAll ids s = .next t ∧ t.hist = ids.drop (ids.length - 20)

/-! ## Hardware Identity Decoder -/

/-- R190: HWI_DECODE of 84 bytes unpacks the fixed layout, little-endian, trims the two texts and looks the model up; of any
other length it raises ProtocolViolation(BadInfoLength). No state is written. -/
def Obligations.HwiDecodeUnpacksTheFixedLayout : Prop :=
  ∀ (p : Bytes) (s : State),
    (p.length = 84 → ∃ r : HardwareIdentity, exec (.hwiDecode p) s = .next (handsBack (.identity r) s) ∧
      (∀ b : Nat → Nat, (∀ k, b k = (p.getD k 0).toNat) →
        r.serialNumber.toNat = b 0 + 256 * b 1 + 65536 * b 2 + 16777216 * b 3 ∧
        r.hardwareType.toNat = b 12 + 256 * b 13 ∧
        r.softwareVersion.toNat = b 14 + 256 * b 15 + 65536 * b 16 + 16777216 * b 17 ∧
        r.hardwareVersion.toNat = b 78 + 256 * b 79 ∧ r.modState.toNat = b 80 + 256 * b 81 ∧
        r.channelCount.toNat = b 82 + 256 * b 83) ∧
      r.modelText = trim s.cfg.trimPad ((p.drop 4).take 8) ∧ r.notes = trim s.cfg.trimPad ((p.drop 18).take 48) ∧
      exec (.modelLookup r.serialNumber) s = .next (handsBack (.model r.model) s)) ∧
    (p.length ≠ 84 → exec (.hwiDecode p) s = .next (handsBack (.error (.badInfoLength p.length)) s))

/-- Trim (43_identity.md section 2) cuts a run of nulls and pad bytes from the end, all of it, and nothing else. -/
def Obligations.TrimCutsOnlyTheTrailingRun : Prop :=
  ∀ (pad : List Byte) (t : Bytes), ∃ cut, t = trim pad t ++ cut ∧ (∀ b ∈ cut, b = 0 ∨ b ∈ pad) ∧
    ∀ init b, trim pad t = init ++ [b] → b ≠ 0 ∧ b ∉ pad

/-- R193: MODEL_LOOKUP returns the Model Table's entry for the two leading decimal digits of the serial number: none below
10, and for prefix 40 always the known row. No state is written, no error. -/
def Obligations.ModelLookupUsesTheTwoLeadingDigits : Prop :=
  ∀ (serial : Word32) (s : State),
    (serial.toNat < 10 → exec (.modelLookup serial) s = .next (handsBack (.model none) s)) ∧
    (10 ≤ serial.toNat → ∃ k, 10 ≤ serial.toNat / 10 ^ k ∧ serial.toNat / 10 ^ k ≤ 99) ∧
    ∀ k, 10 ≤ serial.toNat / 10 ^ k → serial.toNat / 10 ^ k ≤ 99 →
      exec (.modelLookup serial) s = .next (handsBack (.model (s.cfg.modelTable.lookup (serial.toNat / 10 ^ k))) s) ∧
      (s.cfg.wf = true → serial.toNat / 10 ^ k = 40 →
        exec (.modelLookup serial) s =
          .next (handsBack (.model (some ⟨"Single channel stepper driver", "BSC101"⟩)) s))

/-- HWI_LATCH (43_identity.md section 5): of 84 bytes it returns what HWI_DECODE returns and caches serial number, channel
count and, where the model is known, its prefix, all at once; of any other length the cache stays as it was. -/
def Obligations.HwiLatchFillsTheCacheOrLeavesIt : Prop :=
  ∀ (p : Bytes) (s : State),
    (p.length = 84 → ∃ (r : HardwareIdentity) (key : Option (BitVec 7)),
      exec (.hwiDecode p) s = .next (handsBack (.identity r) s) ∧
      exec (.hwiLatch p) s =
        .next (handsBack (.identity r) { s with ident := some ⟨r.serialNumber, key, r.channelCount⟩ }) ∧
      (r.model = none → key = none) ∧
      (∀ m, r.model = some m → ∃ k, key = some k ∧ 10 ≤ k.toNat ∧ k.toNat ≤ 99 ∧
        s.cfg.modelTable.lookup k.toNat = some m ∧ ∃ j, r.serialNumber.toNat / 10 ^ j = k.toNat)) ∧
    (p.length ≠ 84 → exec (.hwiLatch p) s = .next (handsBack (.error (.badInfoLength p.length)) s))

/-! ## Configuration and register access -/

/-- INIT (44_config.md): every register of the block goes to its reset value, then SRC and DEST are set; without a
destination ConfigurationError(NoDestination) is raised with SRC set and DEST_SET = 0. The environment is untouched. -/
def Obligations.InitStartsANewConnection : Prop :=
  ∀ (source destination : Option Byte) (s : State), ∃ t, exec (.init source destination) s = .next t ∧
    t.src = source.getD 0x01 ∧ t.dest = destination ∧ t.suidSet = false ∧ t.handler = false ∧
    t.verbose = s.cfg.verboseReset ∧ t.hist = [] ∧ t.cnt = 0 ∧ t.wp = 0 ∧ t.idValid = false ∧ t.idModelKnown = false ∧
    t.seq = .idle ∧ t.drainCnt = 0 ∧ t.busy = false ∧
    t.replies = s.replies ++ [if destination.isSome then .done else .error .noDestination] ∧
    t.cfg = s.cfg ∧ t.rxbuf = s.rxbuf ∧ t.incoming = s.incoming ∧ t.txlog = s.txlog ∧ t.notelog = s.notelog ∧
    t.statuslog = s.statuslog ∧ t.requests = s.requests

/-- R212, R213: SET_SUID and SET_HANDLER write their register and nothing else, for every operand value; CR2 and bit 0 of CR3
then read it. -/
def Obligations.SettersWriteOneRegister : Prop :=
  (∀ (v : Option Word16) (s : State), exec (.setSuid v) s = .next (handsBack .done { s with suid := v }) ∧
    ∃ w : Word32, exec (.crRd 2) { s with suid := v } = .next (handsBack (.value w) { s with suid := v }) ∧
      w.toNat = match v with | some x => 65536 + x.toNat | none => 0) ∧
  (∀ (present : Bool) (s : State), exec (.setHandler present) s = .next (handsBack .done { s with handler := present }) ∧
    ∃ w : Word32, exec (.crRd 3) { s with handler := present } = .next (handsBack (.value w) { s with handler := present }) ∧
      w.toNat % 2 = present.toNat)

/-- CR_RD (44_config.md, the table of 10_state.md section 7): every register number reads as the table lays it out, fields
without a value as 0; a reserved number is NotSupported(BadRegister). No state is written. -/
def Obligations.CrRdReadsTheRegisterTable : Prop :=
  ∀ (n : Nat) (s : State),
    exec (.crRd n) s = .next (handsBack
      (match crTable s n with
        | some v => .value (BitVec.ofNat 32 v)
        | none => .error (.badRegister n)) s) ∧
    (crTable s n = none ↔ (11 ≤ n ∧ n ≤ 15) ∨ 36 ≤ n)

/-! ## Host sequences -/

/-- While DEST_SET = 0 every sequence that sends a frame raises ConfigurationError(NoDestination) and does nothing else
(45_host_sequences.md section 1); an unknown channel is reported before that. -/
def Obligations.UnconfiguredSequencesDoNothing : Prop :=
  ∀ (i : Instr) (s : State), s.dest = none →
    ((∃ id p1 p2, i = .query id p1 p2 ∨ i = .write id p1 p2) ∨ i = .getHwInfo ∨
      ∃ c, 1 ≤ c ∧ c ≤ 4 ∧ (i = .getChannelState c ∨ ∃ e, i = .setChannelState c e)) →
    exec i s = .next (handsBack (.error .noDestination) s)

/-- A channel outside 1..4 is UnknownChannel, and neither the transport nor the history is touched, configured or not
(45_host_sequences.md section 3). -/
def Obligations.UnknownChannelTouchesNothing : Prop :=
  ∀ (c : Nat) (e : Bool) (s : State), (c = 0 ∨ 5 ≤ c) →
    exec (.setChannelState c e) s = .next (handsBack (.error (.unknownChannel c)) s) ∧
    exec (.getChannelState c) s = .next (handsBack (.error (.unknownChannel c)) s)

/-- WRITE pushes the id and sends the six bytes; it does not flush and reads nothing (45_host_sequences.md section 1). -/
def Obligations.WritePushesAndSends : Prop :=
  ∀ (id : Word16) (p1 p2 d : Byte) (s : State), s.dest = some d →
    ∃ t, exec (.write id p1 p2) s = .next t ∧ t.replies = s.replies ++ [.done] ∧
      t.txlog = s.txlog ++ requestBytes id p1 p2 d s.src ∧ t.hist = appendCapped s.hist id ∧
      t.rxbuf = s.rxbuf ∧ t.incoming = s.incoming

/-- QUERY is its expansion (30_encoding.md section 6): RxFlush, HIST_PUSH, TxWrite of ENC_SHORT, CLS_RUN, in that order; so
the push precedes every read. -/
def Obligations.QueryIsFlushPushSendRun : Prop :=
  ∀ (id : Word16) (p1 p2 d : Byte) (s : State), s.dest = some d →
    ∃ u r, exec (.histPush id) { s with rxbuf := [] } = .next (handsBack r u) ∧
      exec (.query id p1 p2) s = exec .clsRun { u with txlog := s.txlog ++ requestBytes id p1 p2 d s.src }

/-- A whole QUERY: stale bytes are dropped unread, the request is sent, and of what arrives the unsolicited frames are
consumed and the first answer is returned, classified with the sent id as the newest (45_host_sequences.md section 1). -/
def Obligations.QueryReturnsTheAnswerThatArrives : Prop :=
  ∀ (s : State) (id : Word16) (p1 p2 d : Byte) (l : List (Frame × Bytes)) (a : Frame) (data rest : Bytes),
    s.dest = some d → s.incoming = [wires l ++ wire a data ++ rest] →
    (∀ p ∈ l, unsolicited p.1 = true ∧ goodFrame (contextAfterPush s id) s.handler p = true) →
    l.length ≤ s.cfg.drainMax → unsolicited a = false →
    goodFrame (contextAfterPush s id) s.handler (a, data) = true →
    ∃ t, exec (.query id p1 p2) s = .next t ∧ t.replies = s.replies ++ [.message (frameMessage a data)] ∧
      t.rxbuf = rest ∧ t.incoming = [] ∧ t.txlog = s.txlog ++ requestBytes id p1 p2 d s.src ∧
      t.hist = appendCapped s.hist id ∧ t.drainCnt = l.length ∧
      t.notelog = s.notelog ++ l.flatMap (fun p => noteEvents s.verbose p.1 p.2) ∧
      t.statuslog = s.statuslog ++ l.flatMap (fun p => statusEvents p.1 p.2)

/-- GET_HW_INFO on what arrives (45_host_sequences.md section 2): the unsolicited frames ahead of the answer are consumed with
their events; a long answer of 84 bytes is decoded and cached, the prefix under the key exactly where the model is known, as
HWI_LATCH does; of another length it is ProtocolViolation(BadInfoLength), and a short answer is
ProtocolViolation(InfoNotLong), both with the cache as it was. -/
def Obligations.GetHwInfoDecodesAndCachesTheAnswer : Prop :=
  ∀ (s : State) (d : Byte) (l : List (Frame × Bytes)) (a : Frame) (data rest : Bytes), s.dest = some d →
    s.incoming = [wires l ++ wire a data ++ rest] →
    (∀ p ∈ l, unsolicited p.1 = true ∧ goodFrame (contextAfterPush s 0x0005) s.handler p = true) →
    l.length ≤ s.cfg.drainMax → unsolicited a = false →
    goodFrame (contextAfterPush s 0x0005) s.handler (a, data) = true →
    ∃ t, exec .getHwInfo s = .next t ∧ t.txlog = s.txlog ++ requestBytes 0x0005 0 0 d s.src ∧
      t.hist = appendCapped s.hist 0x0005 ∧ t.rxbuf = rest ∧
      t.notelog = s.notelog ++ l.flatMap (fun p => noteEvents s.verbose p.1 p.2) ∧
      t.statuslog = s.statuslog ++ l.flatMap (fun p => statusEvents p.1 p.2) ∧
      (longForm a = true → data.length = 84 →
        t.replies = s.replies ++ [.identity (unpackIdentity s.cfg data)] ∧
        ∃ key, t.ident = some ⟨(unpackIdentity s.cfg data).serialNumber, key, (unpackIdentity s.cfg data).channelCount⟩ ∧
          key.map BitVec.toNat = (if (unpackIdentity s.cfg data).model.isSome then
            prefix2 (unpackIdentity s.cfg data).serialNumber else none)) ∧
      (longForm a = true → data.length ≠ 84 →
        t.replies = s.replies ++ [.error (.badInfoLength data.length)] ∧ t.ident = s.ident) ∧
      (longForm a = false → t.replies = s.replies ++ [.error .infoNotLong] ∧ t.ident = s.ident)

/-- SET_CHANNEL_STATE (45_host_sequences.md section 3): with SETCH_ACK = WRITE it is the WRITE of id 0x0210 with the channel's
bit flag and 0x01 or 0x02; with SETCH_ACK = QUERY it is the QUERY of the same frame with its answer discarded. That the
errors of that QUERY are kept is the model's choice (log entry 19): the spec lists the errors of the WRITE form only. -/
def Obligations.SetChannelStateSendsItsFrame : Prop :=
  ∀ (c : Nat) (e : Bool) (d ident : Byte) (s : State), 1 ≤ c → c ≤ 4 → ident.toNat = 2 ^ (c - 1) → s.dest = some d →
    (s.cfg.setchAck = .write →
      exec (.setChannelState c e) s = exec (.write 0x0210 ident (if e then 0x01 else 0x02)) s ∧
      ∃ t, exec (.setChannelState c e) s = .next t ∧ t.replies = s.replies ++ [.done] ∧
        t.txlog = s.txlog ++ [0x10, 0x02, ident, if e then 0x01 else 0x02, d, s.src] ∧
        t.hist = appendCapped s.hist 0x0210) ∧
    (s.cfg.setchAck = .query → ∀ t, exec (.query 0x0210 ident (if e then 0x01 else 0x02)) s = .next t →
      (∀ m, t.replies = s.replies ++ [.message m] →
        exec (.setChannelState c e) s = .next { t with replies := s.replies ++ [.done] }) ∧
      (∀ k, t.replies = s.replies ++ [.error k] → exec (.setChannelState c e) s = .next t))

/-- GET_CHANNEL_STATE on what arrives (45_host_sequences.md section 3): the unsolicited frames ahead of the answer are consumed
with their events; of the answer param2 = 0x01 is true, 0x02 is false, every other byte ProtocolViolation(BadChannelState),
and a long answer ProtocolViolation(ExpectedShort). -/
def Obligations.GetChannelStateMapsTheAnswerBack : Prop :=
  ∀ (s : State) (c : Nat) (d ident : Byte) (l : List (Frame × Bytes)) (a : Frame) (data rest : Bytes),
    1 ≤ c → c ≤ 4 → ident.toNat = 2 ^ (c - 1) → s.dest = some d → s.incoming = [wires l ++ wire a data ++ rest] →
    (∀ p ∈ l, unsolicited p.1 = true ∧ goodFrame (contextAfterPush s 0x0211) s.handler p = true) →
    l.length ≤ s.cfg.drainMax → unsolicited a = false →
    goodFrame (contextAfterPush s 0x0211) s.handler (a, data) = true →
    ∃ t, exec (.getChannelState c) s = .next t ∧ t.txlog = s.txlog ++ [0x11, 0x02, ident, 0x00, d, s.src] ∧
      t.hist = appendCapped s.hist 0x0211 ∧ t.rxbuf = rest ∧
      t.notelog = s.notelog ++ l.flatMap (fun p => noteEvents s.verbose p.1 p.2) ∧
      t.statuslog = s.statuslog ++ l.flatMap (fun p => statusEvents p.1 p.2) ∧
      t.replies = s.replies ++ [channelReply (frameMessage a data).body]

/-- The errors of their QUERY are the errors of GET_HW_INFO and GET_CHANNEL_STATE, with the state it left: nothing is undone
(60_exceptions.md sections 1 and 3). -/
def Obligations.SequencesReturnTheErrorsOfTheirQuery : Prop :=
  ∀ (s t : State) (e : ErrorKind), t.replies = s.replies ++ [.error e] →
    (exec (.query 0x0005 0 0) s = .next t → exec .getHwInfo s = .next t) ∧
    ∀ (c : Nat) (ident : Byte), 1 ≤ c → c ≤ 4 → ident.toNat = 2 ^ (c - 1) →
      exec (.query 0x0211 ident 0) s = .next t → exec (.getChannelState c) s = .next t

/-! ## Whole-machine rules -/

/-- Every instruction completes with one reply more, the lock free (20_memory.md section 6): no operation stops the
machine. -/
def Obligations.EveryInstructionRepliesOnce : Prop :=
  ∀ (i : Instr) (s : State), ∃ t r, exec i s = .next t ∧ t.replies = s.replies ++ [r] ∧ t.busy = false

/-- What an instruction writes is what its rule says it writes (30_encoding.md section 6, column "state written"); every other
group of state holds what it held. -/
def Obligations.InstructionsWriteOnlyTheirGroups : Prop :=
  ∀ (i : Instr) (s t : State) (g : Group), exec i s = .next t → g ∉ instrWrites i → g.same s t

/-- The table of which operation can raise what (60_exceptions.md section 2): an instruction ends with no other error. Two kinds
of row are the model's choice and not the table's: a frame class counts as the CLS_STEP that read its header (log entry 9),
and SET_CHANNEL_STATE with SETCH_ACK = QUERY has the errors of that QUERY (log entry 19). -/
def Obligations.ErrorsAreThoseOfTheTable : Prop :=
  ∀ (i : Instr) (s t : State) (e : ErrorKind), exec i s = .next t → t.replies = s.replies ++ [.error e] →
    mayRaise s.cfg.setchAck i e = true

/-- The triples of the error kinds (60_exceptions.md section 1): cause code, sub-cause code, info; UnknownModel, which nothing
raises, among them. -/
def Obligations.ErrorTriplesAreThoseOfTheTable : Prop :=
  (∀ got, (ErrorKind.shortRead got).triple = (1, 1, [got])) ∧
  (∀ want got, (ErrorKind.shortPayload want got).triple = (1, 2, [want, got])) ∧
  ErrorKind.noFrame.triple = (2, 1, []) ∧ (∀ n, (ErrorKind.drainExhausted n).triple = (2, 2, [n])) ∧
  (∀ c, (ErrorKind.unknownChannel c).triple = (3, 0, [c])) ∧
  (∀ k, (ErrorKind.unknownModel k).triple = (4, 0, k.toList)) ∧
  (∀ b, (ErrorKind.badChannelState b).triple = (5, 1, [b.toNat])) ∧
  (∀ n, (ErrorKind.badInfoLength n).triple = (5, 2, [n])) ∧ ErrorKind.infoNotLong.triple = (5, 3, []) ∧
  ErrorKind.expectedShort.triple = (5, 4, []) ∧
  (∀ i : Word16, (ErrorKind.noStatusHandler i).triple = (6, 1, [i.toNat])) ∧
  (∀ n, (ErrorKind.badRegister n).triple = (6, 2, [n])) ∧ (∀ n, (ErrorKind.reservedOp n).triple = (6, 3, [n])) ∧
  ErrorKind.noDestination.triple = (7, 1, [])

/-- R61: whatever runs and whatever arrives, the block removes bytes from the front of RX only (or all that is buffered at
once), and adds none. -/
def Obligations.RxIsConsumedFromTheFront : Prop :=
  ∀ (i : Instr) (s t : State), exec i s = .next t →
    ∃ taken, s.rxbuf ++ s.incoming.flatten = taken ++ (t.rxbuf ++ t.incoming.flatten)

/-- R226: an instruction sends nothing, or one frame of six bytes with the configured destination and source, whose id it has
pushed. -/
def Obligations.EverySentFrameIsShortAndAddressed : Prop :=
  ∀ (i : Instr) (s t : State), exec i s = .next t →
    t.txlog = s.txlog ∨ ∃ (id : Word16) (p1 p2 d : Byte), s.dest = some d ∧
      t.txlog = s.txlog ++ requestBytes id p1 p2 d s.src ∧ t.hist = appendCapped s.hist id

/-- The event ports only grow (20_memory.md section 3). -/
def Obligations.EventLogsOnlyGrow : Prop :=
  ∀ (i : Instr) (s t : State), exec i s = .next t → s.notelog <+: t.notelog ∧ s.statuslog <+: t.statuslog

/-! ## Invariants -/

/-- At reset the invariant of the block holds. -/
def Obligations.ResetMeetsTheInvariant : Prop := State.reset.Inv

/-- Every step keeps the invariant of the block: SEQ idle and the lock free between operations, DRAIN_CNT within DRAIN_MAX,
PBUF within its capacity, ring and count in step, the cache consistent with the Model Table, TX in units of six bytes, and
every event one that its classifier step makes. -/
def Obligations.StepKeepsTheInvariant : Prop := ∀ s t : State, s.Inv → step s = .next t → t.Inv

/-- With requests that name operations, no step ever stops: the machine goes on, with requests of the same kind
(20_memory.md section 6). -/
def Obligations.WellFormedRequestsNeverStop : Prop :=
  ∀ s : State, requestsOk s = true → ∃ t, step s = .next t ∧ requestsOk t = true

/-! ## Encoding -/

/-- Every well-formed instruction of the host port, with every operand value, reads back from its encoding. The byte form is
the model's choice (log entry 2); the operands and OPSEL codes are the spec's (30_encoding.md section 6). -/
def Obligations.RequestsDecodeAsEncoded : Prop :=
  ∀ (i : Instr) (rest : Bytes), i.wf = true → i.fromRx = false → decodeRequest (encode i ++ rest) = .ok (i, rest)

/-- A frame class reads back from its header in every context in which the header is of that class, and what the RX decoder
reads encodes to the bytes it was read from. -/
def Obligations.FramesDecodeAsEncoded : Prop :=
  (∀ (c : FrameContext) (f : Frame) (rest : Bytes), classify c f.header = f →
    decodeFrame c (encode f.toInstr ++ rest) = some f.toInstr) ∧
  (∀ (c : FrameContext) (b : Bytes) (i : Instr), decodeFrame c b = some i → encode i = b.take 6 ∧ i.wf = true)

/-- Written-out words decode. The byte strings of received frames decode to the frames they are in their context (30_encoding.md
section 2). Which instruction a word of the opcode table is, is the model's choice (log entry 10): an OPSEL code is read with
operands of 0, and the 48-bit words of fixed ids 0x0005, 0x0210 and 0x0211 as the host sequences that send them, though the
same bytes received would be answers. -/
def Obligations.WrittenOutWordsDecode : Prop :=
  decodeTableWord 8 0b0000 = some .reserved ∧ decodeTableWord 8 0b0100 = some .clsStep ∧
  decodeTableWord 8 0b0111 = some .histLast ∧ decodeTableWord 8 0b1111 = some (.crRd 0) ∧
  decodeTableWord 48 0x5001CDAB0080 = some (.hwResponse 0xAB 0xCD 0x01 0x50) ∧
  decodeTableWord 48 0x508100050081 = some (.hwRichResponse 5 0x81 0x50) ∧
  decodeTableWord 48 0x015000000005 = some .getHwInfo ∧
  decodeTableWord 48 0x015001020210 = some (.setChannelState 2 true) ∧
  decodeTableWord 48 0x015000010211 = some (.getChannelState 1) ∧
  decodeFrame ⟨some 0x0481, some 0x0481, .hdr, 0x01⟩ [0x81, 0x04, 0x02, 0x00, 0x01, 0x50] =
    some (.statusUpdate 0x0481 2 0x01 0x50) ∧
  decodeFrame ⟨none, none, .hdr, 0x01⟩ [0x0B, 0x0A, 0x04, 0x00, 0x81, 0x01] = some (.answerLong 0x0A0B 4 0x81 0x01) ∧
  decodeFrame ⟨none, none, .hdr, 0x01⟩ [0x11, 0x02, 0x01, 0x02, 0x01, 0x50] =
    some (.answerShort 0x0211 0x01 0x02 0x01 0x50)

/-! ## Sequences on any stream -/

/-- GET_HW_INFO and GET_CHANNEL_STATE go on with the message their QUERY returns, whatever arrived before it and in whatever
chunks (45_host_sequences.md sections 2 and 3): a long answer to 0x0005 is handed to HWI_LATCH and a short one is
ProtocolViolation(InfoNotLong); an answer to 0x0211 is mapped back. The state is the one the QUERY left. -/
def Obligations.SequencesUseTheMessageOfTheirQuery : Prop :=
  ∀ (s t : State) (m : Message), t.replies = s.replies ++ [.message m] →
    (exec (.query 0x0005 0 0) s = .next t →
      (∀ n p, m.body = .longData n p → exec .getHwInfo s = exec (.hwiLatch p) { t with replies := s.replies }) ∧
      (∀ p1 p2, m.body = .shortParams p1 p2 →
        exec .getHwInfo s = .next { t with replies := s.replies ++ [.error .infoNotLong] })) ∧
    ∀ (c : Nat) (ident : Byte), 1 ≤ c → c ≤ 4 → ident.toNat = 2 ^ (c - 1) →
      exec (.query 0x0211 ident 0) s = .next t →
      exec (.getChannelState c) s = .next { t with replies := s.replies ++ [channelReply m.body] }

/-! ## The open parameters -/

/-- R191 at reset, and in every state with the parameters of reset, which no step writes: the Model Table answers the known row
under prefix 40, and under every other prefix the free value, which no one can tell to be a row or none; DRAIN_MAX is one more
than a free value. That the open parameters are free values fixed at reset is the model's choice (log entry 25). -/
def Obligations.ResetAssumesOnlyTheKnownModelRow : Prop :=
  State.reset.cfg.drainMax = Config.freeDrainMax + 1 ∧
  ∀ (serial : Word32) (s : State), s.cfg = State.reset.cfg →
    ∀ k, 10 ≤ serial.toNat / 10 ^ k → serial.toNat / 10 ^ k ≤ 99 →
      (serial.toNat / 10 ^ k = 40 → exec (.modelLookup serial) s = .next (handsBack (.model (some knownModel)) s)) ∧
      (serial.toNat / 10 ^ k ≠ 40 →
        exec (.modelLookup serial) s = .next (handsBack (.model (Config.freeModelRow (serial.toNat / 10 ^ k))) s))
end

