-- ==== Sys2Proof/Laws/Codec.lean ====
section
/-! SUPPORT. Byte assembly and the two views of a header (R12, R91 to R93, R124). -/

namespace Sys2Proof

@[simp] theorem le16_toNat (lo hi : Byte) : (le16 lo hi).toNat = lo.toNat + 256 * hi.toNat := by
  have := lo.isLt
  simp only [le16, BitVec.toNat_append, Nat.shiftLeft_eq]
  rw [← Nat.shiftLeft_eq, ← Nat.shiftLeft_add_eq_or_of_lt lo.isLt, Nat.shiftLeft_eq]; omega

@[simp] theorem le32_toNat (b0 b1 b2 b3 : Byte) :
    (le32 b0 b1 b2 b3).toNat = b0.toNat + 256 * b1.toNat + 65536 * b2.toNat + 16777216 * b3.toNat := by
  have h1 := le16_toNat b0 b1
  have h2 := le16_toNat b2 b3
  unfold le16 at h1 h2
  unfold le32
  rw [BitVec.toNat_append, h1, h2, ← Nat.shiftLeft_add_eq_or_of_lt (by have := b0.isLt; have := b1.isLt; omega),
    Nat.shiftLeft_eq]
  omega

@[simp] theorem le16_low (lo hi : Byte) : (le16 lo hi).extractLsb' 0 8 = lo := by
  apply BitVec.eq_of_toNat_eq
  have := lo.isLt
  simp only [BitVec.extractLsb'_toNat, le16_toNat, Nat.shiftRight_zero]
  omega

@[simp] theorem le16_high (lo hi : Byte) : (le16 lo hi).extractLsb' 8 8 = hi := by
  apply BitVec.eq_of_toNat_eq
  have := lo.isLt
  have := hi.isLt
  simp only [BitVec.extractLsb'_toNat, le16_toNat, Nat.shiftRight_eq_div_pow]
  omega

/-- A u16 is its two bytes, low byte first (R12). -/
@[simp] theorem le16_bytes (v : Word16) : le16 (v.extractLsb' 0 8) (v.extractLsb' 8 8) = v := by
  apply BitVec.eq_of_toNat_eq
  have := v.isLt
  simp only [le16_toNat, BitVec.extractLsb'_toNat, Nat.shiftRight_eq_div_pow]
  omega

/-- A u32 is its four bytes, low byte first (R63). -/
@[simp] theorem le32_bytes (v : Word32) :
    le32 (v.extractLsb' 0 8) (v.extractLsb' 8 8) (v.extractLsb' 16 8) (v.extractLsb' 24 8) = v := by
  apply BitVec.eq_of_toNat_eq
  have := v.isLt
  simp only [le32_toNat, BitVec.extractLsb'_toNat, Nat.shiftRight_eq_div_pow]
  omega

namespace Header

section
variable (id length : Word16) (p1 p2 dest source : Byte)

@[simp] theorem short_id : (short id p1 p2 dest source).id = id := le16_bytes id
@[simp] theorem short_param1 : (short id p1 p2 dest source).param1 = p1 := rfl
@[simp] theorem short_param2 : (short id p1 p2 dest source).param2 = p2 := rfl
@[simp] theorem short_dest : (short id p1 p2 dest source).dest = dest := rfl
@[simp] theorem short_source : (short id p1 p2 dest source).source = source := rfl
@[simp] theorem long_id : (long id length dest source).id = id := le16_bytes id
@[simp] theorem long_length : (long id length dest source).length = length := le16_bytes length
@[simp] theorem long_dest : (long id length dest source).dest = dest := rfl
@[simp] theorem long_source : (long id length dest source).source = source := rfl

end

/-- The 48-bit word H has byte k of the header at weight 2^(8k) (R11). -/
theorem word_toNat (h : Header) :
    h.word.toNat = h.b0.toNat + 2 ^ 8 * h.b1.toNat + 2 ^ 16 * h.b2.toNat + 2 ^ 24 * h.b3.toNat + 2 ^ 32 * h.b4.toNat
      + 2 ^ 40 * h.b5.toNat := by
  have key : ∀ (m n : Nat) (a : BitVec m) (b : BitVec n), (a ++ b).toNat = b.toNat + 2 ^ n * a.toNat := by
    intro m n a b
    rw [BitVec.toNat_append, ← Nat.shiftLeft_add_eq_or_of_lt b.isLt, Nat.shiftLeft_eq, Nat.mul_comm, Nat.add_comm]
  unfold word
  simp only [key]
  omega

/-- A header is the short-form header of its short view (R124 (b)). -/
@[simp] theorem short_view (h : Header) : short h.id h.param1 h.param2 h.dest h.source = h := by
  cases h; simp [short, id, param1, param2, dest, source]

/-- A header is the long-form header of its long view. -/
@[simp] theorem long_view (h : Header) : long h.id h.length h.dest h.source = h := by
  cases h; simp [long, id, length, dest, source]

@[simp] theorem length_bytes (h : Header) : h.bytes.length = 6 := rfl

/-- The first six bytes are the header, whatever follows. -/
@[simp] theorem ofBytes?_bytes (h : Header) (rest : Bytes) : ofBytes? (h.bytes ++ rest) = some h := rfl

/-- There is no header in fewer than six bytes. -/
theorem ofBytes?_eq_none {b : Bytes} : ofBytes? b = none ↔ b.length < 6 := by
  constructor
  · intro h
    match b with
    | [] | [_] | [_, _] | [_, _, _] | [_, _, _, _] | [_, _, _, _, _] => simp
    | _ :: _ :: _ :: _ :: _ :: _ :: _ => simp [ofBytes?] at h
  · intro h
    match b with
    | [] | [_] | [_, _] | [_, _, _] | [_, _, _, _] | [_, _, _, _, _] => rfl
    | _ :: _ :: _ :: _ :: _ :: _ :: _ => simp at h; omega

/-- The header found is the first six bytes. -/
theorem ofBytes?_eq_some {b : Bytes} {h : Header} : ofBytes? b = some h ↔ b = h.bytes ++ b.drop 6 := by
  constructor
  · intro e
    match b with
    | [] | [_] | [_, _] | [_, _, _] | [_, _, _, _] | [_, _, _, _, _] => simp [ofBytes?] at e
    | _ :: _ :: _ :: _ :: _ :: _ :: _ => simp only [ofBytes?, Option.some.injEq] at e; subst e; rfl
  · intro e; rw [e]; rfl

end Header

/-- Classifying forgets no bit of the header. -/
@[simp] theorem header_classify (c : FrameContext) (h : Header) : (classify c h).header = h := by
  unfold classify
  split
  next e => simp only [Frame.header, ← e, Header.short_view]
  split
  next e => simp only [Frame.header, ← e, Header.long_view]
  split <;> [skip; split] <;> simp [Frame.header]

/-- The header of a frame as an instruction is its encoding. -/
@[simp] theorem encode_toInstr (f : Frame) : encode f.toInstr = f.header.bytes := by cases f <;> rfl

end Sys2Proof
end

