-- ==== Sys2Proof/Laws/State.lean ====
section
/-! SUPPORT. What each named update does to each field of State: one lemma per field per update. -/

namespace Sys2Proof.Machine

/-! ## finish -/

section
variable (r : Reply) (s : State)

@[simp] theorem finish_cfg : (finish r s).cfg = s.cfg := rfl
@[simp] theorem finish_src : (finish r s).src = s.src := rfl
@[simp] theorem finish_dest : (finish r s).dest = s.dest := rfl
@[simp] theorem finish_suid : (finish r s).suid = s.suid := rfl
@[simp] theorem finish_handler : (finish r s).handler = s.handler := rfl
@[simp] theorem finish_verbose : (finish r s).verbose = s.verbose := rfl
@[simp] theorem finish_hdr : (finish r s).hdr = s.hdr := rfl
@[simp] theorem finish_pbuf : (finish r s).pbuf = s.pbuf := rfl
@[simp] theorem finish_ring : (finish r s).ring = s.ring := rfl
@[simp] theorem finish_wp : (finish r s).wp = s.wp := rfl
@[simp] theorem finish_cnt : (finish r s).cnt = s.cnt := rfl
@[simp] theorem finish_ident : (finish r s).ident = s.ident := rfl
@[simp] theorem finish_seq : (finish r s).seq = s.seq := rfl
@[simp] theorem finish_drainCnt : (finish r s).drainCnt = s.drainCnt := rfl
@[simp] theorem finish_busy : (finish r s).busy = false := rfl
@[simp] theorem finish_rxbuf : (finish r s).rxbuf = s.rxbuf := rfl
@[simp] theorem finish_txlog : (finish r s).txlog = s.txlog := rfl
@[simp] theorem finish_notelog : (finish r s).notelog = s.notelog := rfl
@[simp] theorem finish_statuslog : (finish r s).statuslog = s.statuslog := rfl
@[simp] theorem finish_incoming : (finish r s).incoming = s.incoming := rfl
@[simp] theorem finish_requests : (finish r s).requests = s.requests := rfl
@[simp] theorem finish_replies : (finish r s).replies = s.replies ++ [r] := rfl

end

/-! ## handsBack -/

section
variable (r : Reply) (s : State)

@[simp] theorem handsBack_cfg : (handsBack r s).cfg = s.cfg := rfl
@[simp] theorem handsBack_src : (handsBack r s).src = s.src := rfl
@[simp] theorem handsBack_dest : (handsBack r s).dest = s.dest := rfl
@[simp] theorem handsBack_suid : (handsBack r s).suid = s.suid := rfl
@[simp] theorem handsBack_handler : (handsBack r s).handler = s.handler := rfl
@[simp] theorem handsBack_verbose : (handsBack r s).verbose = s.verbose := rfl
@[simp] theorem handsBack_hdr : (handsBack r s).hdr = s.hdr := rfl
@[simp] theorem handsBack_pbuf : (handsBack r s).pbuf = s.pbuf := rfl
@[simp] theorem handsBack_ring : (handsBack r s).ring = s.ring := rfl
@[simp] theorem handsBack_wp : (handsBack r s).wp = s.wp := rfl
@[simp] theorem handsBack_cnt : (handsBack r s).cnt = s.cnt := rfl
@[simp] theorem handsBack_ident : (handsBack r s).ident = s.ident := rfl
@[simp] theorem handsBack_seq : (handsBack r s).seq = s.seq := rfl
@[simp] theorem handsBack_drainCnt : (handsBack r s).drainCnt = s.drainCnt := rfl
@[simp] theorem handsBack_busy : (handsBack r s).busy = false := rfl
@[simp] theorem handsBack_rxbuf : (handsBack r s).rxbuf = s.rxbuf := rfl
@[simp] theorem handsBack_txlog : (handsBack r s).txlog = s.txlog := rfl
@[simp] theorem handsBack_notelog : (handsBack r s).notelog = s.notelog := rfl
@[simp] theorem handsBack_statuslog : (handsBack r s).statuslog = s.statuslog := rfl
@[simp] theorem handsBack_incoming : (handsBack r s).incoming = s.incoming := rfl
@[simp] theorem handsBack_requests : (handsBack r s).requests = s.requests := rfl
@[simp] theorem handsBack_replies : (handsBack r s).replies = s.replies ++ [r] := rfl

end

/-! ## takeRx -/

section
variable (n : Nat) (s : State)

@[simp] theorem takeRx_cfg : ((takeRx n s).2).cfg = s.cfg := rfl
@[simp] theorem takeRx_src : ((takeRx n s).2).src = s.src := rfl
@[simp] theorem takeRx_dest : ((takeRx n s).2).dest = s.dest := rfl
@[simp] theorem takeRx_suid : ((takeRx n s).2).suid = s.suid := rfl
@[simp] theorem takeRx_handler : ((takeRx n s).2).handler = s.handler := rfl
@[simp] theorem takeRx_verbose : ((takeRx n s).2).verbose = s.verbose := rfl
@[simp] theorem takeRx_hdr : ((takeRx n s).2).hdr = s.hdr := rfl
@[simp] theorem takeRx_pbuf : ((takeRx n s).2).pbuf = s.pbuf := rfl
@[simp] theorem takeRx_ring : ((takeRx n s).2).ring = s.ring := rfl
@[simp] theorem takeRx_wp : ((takeRx n s).2).wp = s.wp := rfl
@[simp] theorem takeRx_cnt : ((takeRx n s).2).cnt = s.cnt := rfl
@[simp] theorem takeRx_ident : ((takeRx n s).2).ident = s.ident := rfl
@[simp] theorem takeRx_seq : ((takeRx n s).2).seq = s.seq := rfl
@[simp] theorem takeRx_drainCnt : ((takeRx n s).2).drainCnt = s.drainCnt := rfl
@[simp] theorem takeRx_busy : ((takeRx n s).2).busy = s.busy := rfl
@[simp] theorem takeRx_rxbuf : ((takeRx n s).2).rxbuf = s.rxbuf.drop n := rfl
@[simp] theorem takeRx_txlog : ((takeRx n s).2).txlog = s.txlog := rfl
@[simp] theorem takeRx_notelog : ((takeRx n s).2).notelog = s.notelog := rfl
@[simp] theorem takeRx_statuslog : ((takeRx n s).2).statuslog = s.statuslog := rfl
@[simp] theorem takeRx_incoming : ((takeRx n s).2).incoming = s.incoming := rfl
@[simp] theorem takeRx_requests : ((takeRx n s).2).requests = s.requests := rfl
@[simp] theorem takeRx_replies : ((takeRx n s).2).replies = s.replies := rfl

end

/-! ## rxFlush -/

section
variable (s : State)

@[simp] theorem rxFlush_cfg : (rxFlush s).cfg = s.cfg := rfl
@[simp] theorem rxFlush_src : (rxFlush s).src = s.src := rfl
@[simp] theorem rxFlush_dest : (rxFlush s).dest = s.dest := rfl
@[simp] theorem rxFlush_suid : (rxFlush s).suid = s.suid := rfl
@[simp] theorem rxFlush_handler : (rxFlush s).handler = s.handler := rfl
@[simp] theorem rxFlush_verbose : (rxFlush s).verbose = s.verbose := rfl
@[simp] theorem rxFlush_hdr : (rxFlush s).hdr = s.hdr := rfl
@[simp] theorem rxFlush_pbuf : (rxFlush s).pbuf = s.pbuf := rfl
@[simp] theorem rxFlush_ring : (rxFlush s).ring = s.ring := rfl
@[simp] theorem rxFlush_wp : (rxFlush s).wp = s.wp := rfl
@[simp] theorem rxFlush_cnt : (rxFlush s).cnt = s.cnt := rfl
@[simp] theorem rxFlush_ident : (rxFlush s).ident = s.ident := rfl
@[simp] theorem rxFlush_seq : (rxFlush s).seq = s.seq := rfl
@[simp] theorem rxFlush_drainCnt : (rxFlush s).drainCnt = s.drainCnt := rfl
@[simp] theorem rxFlush_busy : (rxFlush s).busy = s.busy := rfl
@[simp] theorem rxFlush_rxbuf : (rxFlush s).rxbuf = [] := rfl
@[simp] theorem rxFlush_txlog : (rxFlush s).txlog = s.txlog := rfl
@[simp] theorem rxFlush_notelog : (rxFlush s).notelog = s.notelog := rfl
@[simp] theorem rxFlush_statuslog : (rxFlush s).statuslog = s.statuslog := rfl
@[simp] theorem rxFlush_incoming : (rxFlush s).incoming = s.incoming := rfl
@[simp] theorem rxFlush_requests : (rxFlush s).requests = s.requests := rfl
@[simp] theorem rxFlush_replies : (rxFlush s).replies = s.replies := rfl

end

/-! ## txWrite -/

section
variable (b : Bytes) (s : State)

@[simp] theorem txWrite_cfg : (txWrite b s).cfg = s.cfg := rfl
@[simp] theorem txWrite_src : (txWrite b s).src = s.src := rfl
@[simp] theorem txWrite_dest : (txWrite b s).dest = s.dest := rfl
@[simp] theorem txWrite_suid : (txWrite b s).suid = s.suid := rfl
@[simp] theorem txWrite_handler : (txWrite b s).handler = s.handler := rfl
@[simp] theorem txWrite_verbose : (txWrite b s).verbose = s.verbose := rfl
@[simp] theorem txWrite_hdr : (txWrite b s).hdr = s.hdr := rfl
@[simp] theorem txWrite_pbuf : (txWrite b s).pbuf = s.pbuf := rfl
@[simp] theorem txWrite_ring : (txWrite b s).ring = s.ring := rfl
@[simp] theorem txWrite_wp : (txWrite b s).wp = s.wp := rfl
@[simp] theorem txWrite_cnt : (txWrite b s).cnt = s.cnt := rfl
@[simp] theorem txWrite_ident : (txWrite b s).ident = s.ident := rfl
@[simp] theorem txWrite_seq : (txWrite b s).seq = s.seq := rfl
@[simp] theorem txWrite_drainCnt : (txWrite b s).drainCnt = s.drainCnt := rfl
@[simp] theorem txWrite_busy : (txWrite b s).busy = s.busy := rfl
@[simp] theorem txWrite_rxbuf : (txWrite b s).rxbuf = s.rxbuf := rfl
@[simp] theorem txWrite_txlog : (txWrite b s).txlog = s.txlog ++ b := rfl
@[simp] theorem txWrite_notelog : (txWrite b s).notelog = s.notelog := rfl
@[simp] theorem txWrite_statuslog : (txWrite b s).statuslog = s.statuslog := rfl
@[simp] theorem txWrite_incoming : (txWrite b s).incoming = s.incoming := rfl
@[simp] theorem txWrite_requests : (txWrite b s).requests = s.requests := rfl
@[simp] theorem txWrite_replies : (txWrite b s).replies = s.replies := rfl

end

/-! ## emitNote -/

section
variable (k : NoteKind) (m : Message) (s : State)

@[simp] theorem emitNote_cfg : (emitNote k m s).cfg = s.cfg := rfl
@[simp] theorem emitNote_src : (emitNote k m s).src = s.src := rfl
@[simp] theorem emitNote_dest : (emitNote k m s).dest = s.dest := rfl
@[simp] theorem emitNote_suid : (emitNote k m s).suid = s.suid := rfl
@[simp] theorem emitNote_handler : (emitNote k m s).handler = s.handler := rfl
@[simp] theorem emitNote_verbose : (emitNote k m s).verbose = s.verbose := rfl
@[simp] theorem emitNote_hdr : (emitNote k m s).hdr = s.hdr := rfl
@[simp] theorem emitNote_pbuf : (emitNote k m s).pbuf = s.pbuf := rfl
@[simp] theorem emitNote_ring : (emitNote k m s).ring = s.ring := rfl
@[simp] theorem emitNote_wp : (emitNote k m s).wp = s.wp := rfl
@[simp] theorem emitNote_cnt : (emitNote k m s).cnt = s.cnt := rfl
@[simp] theorem emitNote_ident : (emitNote k m s).ident = s.ident := rfl
@[simp] theorem emitNote_seq : (emitNote k m s).seq = s.seq := rfl
@[simp] theorem emitNote_drainCnt : (emitNote k m s).drainCnt = s.drainCnt := rfl
@[simp] theorem emitNote_busy : (emitNote k m s).busy = s.busy := rfl
@[simp] theorem emitNote_rxbuf : (emitNote k m s).rxbuf = s.rxbuf := rfl
@[simp] theorem emitNote_txlog : (emitNote k m s).txlog = s.txlog := rfl
@[simp] theorem emitNote_notelog : (emitNote k m s).notelog = s.notelog ++ [(k, m)] := rfl
@[simp] theorem emitNote_statuslog : (emitNote k m s).statuslog = s.statuslog := rfl
@[simp] theorem emitNote_incoming : (emitNote k m s).incoming = s.incoming := rfl
@[simp] theorem emitNote_requests : (emitNote k m s).requests = s.requests := rfl
@[simp] theorem emitNote_replies : (emitNote k m s).replies = s.replies := rfl

end

/-! ## emitStatus -/

section
variable (m : Message) (s : State)

@[simp] theorem emitStatus_cfg : (emitStatus m s).cfg = s.cfg := rfl
@[simp] theorem emitStatus_src : (emitStatus m s).src = s.src := rfl
@[simp] theorem emitStatus_dest : (emitStatus m s).dest = s.dest := rfl
@[simp] theorem emitStatus_suid : (emitStatus m s).suid = s.suid := rfl
@[simp] theorem emitStatus_handler : (emitStatus m s).handler = s.handler := rfl
@[simp] theorem emitStatus_verbose : (emitStatus m s).verbose = s.verbose := rfl
@[simp] theorem emitStatus_hdr : (emitStatus m s).hdr = s.hdr := rfl
@[simp] theorem emitStatus_pbuf : (emitStatus m s).pbuf = s.pbuf := rfl
@[simp] theorem emitStatus_ring : (emitStatus m s).ring = s.ring := rfl
@[simp] theorem emitStatus_wp : (emitStatus m s).wp = s.wp := rfl
@[simp] theorem emitStatus_cnt : (emitStatus m s).cnt = s.cnt := rfl
@[simp] theorem emitStatus_ident : (emitStatus m s).ident = s.ident := rfl
@[simp] theorem emitStatus_seq : (emitStatus m s).seq = s.seq := rfl
@[simp] theorem emitStatus_drainCnt : (emitStatus m s).drainCnt = s.drainCnt := rfl
@[simp] theorem emitStatus_busy : (emitStatus m s).busy = s.busy := rfl
@[simp] theorem emitStatus_rxbuf : (emitStatus m s).rxbuf = s.rxbuf := rfl
@[simp] theorem emitStatus_txlog : (emitStatus m s).txlog = s.txlog := rfl
@[simp] theorem emitStatus_notelog : (emitStatus m s).notelog = s.notelog := rfl
@[simp] theorem emitStatus_statuslog : (emitStatus m s).statuslog = s.statuslog ++ [m] := rfl
@[simp] theorem emitStatus_incoming : (emitStatus m s).incoming = s.incoming := rfl
@[simp] theorem emitStatus_requests : (emitStatus m s).requests = s.requests := rfl
@[simp] theorem emitStatus_replies : (emitStatus m s).replies = s.replies := rfl

end

/-! ## setSeq -/

section
variable (q : Seq) (s : State)

@[simp] theorem setSeq_cfg : (setSeq q s).cfg = s.cfg := rfl
@[simp] theorem setSeq_src : (setSeq q s).src = s.src := rfl
@[simp] theorem setSeq_dest : (setSeq q s).dest = s.dest := rfl
@[simp] theorem setSeq_suid : (setSeq q s).suid = s.suid := rfl
@[simp] theorem setSeq_handler : (setSeq q s).handler = s.handler := rfl
@[simp] theorem setSeq_verbose : (setSeq q s).verbose = s.verbose := rfl
@[simp] theorem setSeq_hdr : (setSeq q s).hdr = s.hdr := rfl
@[simp] theorem setSeq_pbuf : (setSeq q s).pbuf = s.pbuf := rfl
@[simp] theorem setSeq_ring : (setSeq q s).ring = s.ring := rfl
@[simp] theorem setSeq_wp : (setSeq q s).wp = s.wp := rfl
@[simp] theorem setSeq_cnt : (setSeq q s).cnt = s.cnt := rfl
@[simp] theorem setSeq_ident : (setSeq q s).ident = s.ident := rfl
@[simp] theorem setSeq_seq : (setSeq q s).seq = q := rfl
@[simp] theorem setSeq_drainCnt : (setSeq q s).drainCnt = s.drainCnt := rfl
@[simp] theorem setSeq_busy : (setSeq q s).busy = s.busy := rfl
@[simp] theorem setSeq_rxbuf : (setSeq q s).rxbuf = s.rxbuf := rfl
@[simp] theorem setSeq_txlog : (setSeq q s).txlog = s.txlog := rfl
@[simp] theorem setSeq_notelog : (setSeq q s).notelog = s.notelog := rfl
@[simp] theorem setSeq_statuslog : (setSeq q s).statuslog = s.statuslog := rfl
@[simp] theorem setSeq_incoming : (setSeq q s).incoming = s.incoming := rfl
@[simp] theorem setSeq_requests : (setSeq q s).requests = s.requests := rfl
@[simp] theorem setSeq_replies : (setSeq q s).replies = s.replies := rfl

end

/-! ## setHdr -/

section
variable (h : Header) (s : State)

@[simp] theorem setHdr_cfg : (setHdr h s).cfg = s.cfg := rfl
@[simp] theorem setHdr_src : (setHdr h s).src = s.src := rfl
@[simp] theorem setHdr_dest : (setHdr h s).dest = s.dest := rfl
@[simp] theorem setHdr_suid : (setHdr h s).suid = s.suid := rfl
@[simp] theorem setHdr_handler : (setHdr h s).handler = s.handler := rfl
@[simp] theorem setHdr_verbose : (setHdr h s).verbose = s.verbose := rfl
@[simp] theorem setHdr_hdr : (setHdr h s).hdr = h.word := rfl
@[simp] theorem setHdr_pbuf : (setHdr h s).pbuf = s.pbuf := rfl
@[simp] theorem setHdr_ring : (setHdr h s).ring = s.ring := rfl
@[simp] theorem setHdr_wp : (setHdr h s).wp = s.wp := rfl
@[simp] theorem setHdr_cnt : (setHdr h s).cnt = s.cnt := rfl
@[simp] theorem setHdr_ident : (setHdr h s).ident = s.ident := rfl
@[simp] theorem setHdr_seq : (setHdr h s).seq = s.seq := rfl
@[simp] theorem setHdr_drainCnt : (setHdr h s).drainCnt = s.drainCnt := rfl
@[simp] theorem setHdr_busy : (setHdr h s).busy = s.busy := rfl
@[simp] theorem setHdr_rxbuf : (setHdr h s).rxbuf = s.rxbuf := rfl
@[simp] theorem setHdr_txlog : (setHdr h s).txlog = s.txlog := rfl
@[simp] theorem setHdr_notelog : (setHdr h s).notelog = s.notelog := rfl
@[simp] theorem setHdr_statuslog : (setHdr h s).statuslog = s.statuslog := rfl
@[simp] theorem setHdr_incoming : (setHdr h s).incoming = s.incoming := rfl
@[simp] theorem setHdr_requests : (setHdr h s).requests = s.requests := rfl
@[simp] theorem setHdr_replies : (setHdr h s).replies = s.replies := rfl

end

/-! ## setPbuf -/

section
variable (d : Bytes) (s : State)

@[simp] theorem setPbuf_cfg : (setPbuf d s).cfg = s.cfg := rfl
@[simp] theorem setPbuf_src : (setPbuf d s).src = s.src := rfl
@[simp] theorem setPbuf_dest : (setPbuf d s).dest = s.dest := rfl
@[simp] theorem setPbuf_suid : (setPbuf d s).suid = s.suid := rfl
@[simp] theorem setPbuf_handler : (setPbuf d s).handler = s.handler := rfl
@[simp] theorem setPbuf_verbose : (setPbuf d s).verbose = s.verbose := rfl
@[simp] theorem setPbuf_hdr : (setPbuf d s).hdr = s.hdr := rfl
@[simp] theorem setPbuf_pbuf : (setPbuf d s).pbuf = d := rfl
@[simp] theorem setPbuf_ring : (setPbuf d s).ring = s.ring := rfl
@[simp] theorem setPbuf_wp : (setPbuf d s).wp = s.wp := rfl
@[simp] theorem setPbuf_cnt : (setPbuf d s).cnt = s.cnt := rfl
@[simp] theorem setPbuf_ident : (setPbuf d s).ident = s.ident := rfl
@[simp] theorem setPbuf_seq : (setPbuf d s).seq = s.seq := rfl
@[simp] theorem setPbuf_drainCnt : (setPbuf d s).drainCnt = s.drainCnt := rfl
@[simp] theorem setPbuf_busy : (setPbuf d s).busy = s.busy := rfl
@[simp] theorem setPbuf_rxbuf : (setPbuf d s).rxbuf = s.rxbuf := rfl
@[simp] theorem setPbuf_txlog : (setPbuf d s).txlog = s.txlog := rfl
@[simp] theorem setPbuf_notelog : (setPbuf d s).notelog = s.notelog := rfl
@[simp] theorem setPbuf_statuslog : (setPbuf d s).statuslog = s.statuslog := rfl
@[simp] theorem setPbuf_incoming : (setPbuf d s).incoming = s.incoming := rfl
@[simp] theorem setPbuf_requests : (setPbuf d s).requests = s.requests := rfl
@[simp] theorem setPbuf_replies : (setPbuf d s).replies = s.replies := rfl

end

/-! ## setDrainCnt -/

section
variable (n : Nat) (s : State)

@[simp] theorem setDrainCnt_cfg : (setDrainCnt n s).cfg = s.cfg := rfl
@[simp] theorem setDrainCnt_src : (setDrainCnt n s).src = s.src := rfl
@[simp] theorem setDrainCnt_dest : (setDrainCnt n s).dest = s.dest := rfl
@[simp] theorem setDrainCnt_suid : (setDrainCnt n s).suid = s.suid := rfl
@[simp] theorem setDrainCnt_handler : (setDrainCnt n s).handler = s.handler := rfl
@[simp] theorem setDrainCnt_verbose : (setDrainCnt n s).verbose = s.verbose := rfl
@[simp] theorem setDrainCnt_hdr : (setDrainCnt n s).hdr = s.hdr := rfl
@[simp] theorem setDrainCnt_pbuf : (setDrainCnt n s).pbuf = s.pbuf := rfl
@[simp] theorem setDrainCnt_ring : (setDrainCnt n s).ring = s.ring := rfl
@[simp] theorem setDrainCnt_wp : (setDrainCnt n s).wp = s.wp := rfl
@[simp] theorem setDrainCnt_cnt : (setDrainCnt n s).cnt = s.cnt := rfl
@[simp] theorem setDrainCnt_ident : (setDrainCnt n s).ident = s.ident := rfl
@[simp] theorem setDrainCnt_seq : (setDrainCnt n s).seq = s.seq := rfl
@[simp] theorem setDrainCnt_drainCnt : (setDrainCnt n s).drainCnt = n := rfl
@[simp] theorem setDrainCnt_busy : (setDrainCnt n s).busy = s.busy := rfl
@[simp] theorem setDrainCnt_rxbuf : (setDrainCnt n s).rxbuf = s.rxbuf := rfl
@[simp] theorem setDrainCnt_txlog : (setDrainCnt n s).txlog = s.txlog := rfl
@[simp] theorem setDrainCnt_notelog : (setDrainCnt n s).notelog = s.notelog := rfl
@[simp] theorem setDrainCnt_statuslog : (setDrainCnt n s).statuslog = s.statuslog := rfl
@[simp] theorem setDrainCnt_incoming : (setDrainCnt n s).incoming = s.incoming := rfl
@[simp] theorem setDrainCnt_requests : (setDrainCnt n s).requests = s.requests := rfl
@[simp] theorem setDrainCnt_replies : (setDrainCnt n s).replies = s.replies := rfl

end

/-! ## afterFrame -/

section
variable (f : Frame) (data rest : Bytes) (s : State)

@[simp] theorem afterFrame_cfg : (afterFrame f data rest s).cfg = s.cfg := rfl
@[simp] theorem afterFrame_src : (afterFrame f data rest s).src = s.src := rfl
@[simp] theorem afterFrame_dest : (afterFrame f data rest s).dest = s.dest := rfl
@[simp] theorem afterFrame_suid : (afterFrame f data rest s).suid = s.suid := rfl
@[simp] theorem afterFrame_handler : (afterFrame f data rest s).handler = s.handler := rfl
@[simp] theorem afterFrame_verbose : (afterFrame f data rest s).verbose = s.verbose := rfl
@[simp] theorem afterFrame_hdr : (afterFrame f data rest s).hdr = f.header.word := rfl
@[simp] theorem afterFrame_pbuf : (afterFrame f data rest s).pbuf = if longForm f then data else s.pbuf := rfl
@[simp] theorem afterFrame_ring : (afterFrame f data rest s).ring = s.ring := rfl
@[simp] theorem afterFrame_wp : (afterFrame f data rest s).wp = s.wp := rfl
@[simp] theorem afterFrame_cnt : (afterFrame f data rest s).cnt = s.cnt := rfl
@[simp] theorem afterFrame_ident : (afterFrame f data rest s).ident = s.ident := rfl
@[simp] theorem afterFrame_seq : (afterFrame f data rest s).seq = .idle := rfl
@[simp] theorem afterFrame_drainCnt : (afterFrame f data rest s).drainCnt = s.drainCnt := rfl
@[simp] theorem afterFrame_busy : (afterFrame f data rest s).busy = s.busy := rfl
@[simp] theorem afterFrame_rxbuf : (afterFrame f data rest s).rxbuf = rest := rfl
@[simp] theorem afterFrame_txlog : (afterFrame f data rest s).txlog = s.txlog := rfl
@[simp] theorem afterFrame_notelog : (afterFrame f data rest s).notelog = s.notelog ++ noteEvents s.verbose f data := rfl
@[simp] theorem afterFrame_statuslog : (afterFrame f data rest s).statuslog = s.statuslog ++ statusEvents f data := rfl
@[simp] theorem afterFrame_incoming : (afterFrame f data rest s).incoming = s.incoming := rfl
@[simp] theorem afterFrame_requests : (afterFrame f data rest s).requests = s.requests := rfl
@[simp] theorem afterFrame_replies : (afterFrame f data rest s).replies = s.replies := rfl

end

/-! ## pushHistory -/

section
variable (id : Word16) (s : State)

@[simp] theorem pushHistory_cfg : (pushHistory id s).cfg = s.cfg := rfl
@[simp] theorem pushHistory_src : (pushHistory id s).src = s.src := rfl
@[simp] theorem pushHistory_dest : (pushHistory id s).dest = s.dest := rfl
@[simp] theorem pushHistory_suid : (pushHistory id s).suid = s.suid := rfl
@[simp] theorem pushHistory_handler : (pushHistory id s).handler = s.handler := rfl
@[simp] theorem pushHistory_verbose : (pushHistory id s).verbose = s.verbose := rfl
@[simp] theorem pushHistory_hdr : (pushHistory id s).hdr = s.hdr := rfl
@[simp] theorem pushHistory_pbuf : (pushHistory id s).pbuf = s.pbuf := rfl
@[simp] theorem pushHistory_ident : (pushHistory id s).ident = s.ident := rfl
@[simp] theorem pushHistory_seq : (pushHistory id s).seq = s.seq := rfl
@[simp] theorem pushHistory_drainCnt : (pushHistory id s).drainCnt = s.drainCnt := rfl
@[simp] theorem pushHistory_busy : (pushHistory id s).busy = s.busy := rfl
@[simp] theorem pushHistory_rxbuf : (pushHistory id s).rxbuf = s.rxbuf := rfl
@[simp] theorem pushHistory_txlog : (pushHistory id s).txlog = s.txlog := rfl
@[simp] theorem pushHistory_notelog : (pushHistory id s).notelog = s.notelog := rfl
@[simp] theorem pushHistory_statuslog : (pushHistory id s).statuslog = s.statuslog := rfl
@[simp] theorem pushHistory_incoming : (pushHistory id s).incoming = s.incoming := rfl
@[simp] theorem pushHistory_requests : (pushHistory id s).requests = s.requests := rfl
@[simp] theorem pushHistory_replies : (pushHistory id s).replies = s.replies := rfl

end

/-! ## latchIdentity -/

section
variable (r : HardwareIdentity) (s : State)

@[simp] theorem latchIdentity_cfg : (latchIdentity r s).cfg = s.cfg := rfl
@[simp] theorem latchIdentity_src : (latchIdentity r s).src = s.src := rfl
@[simp] theorem latchIdentity_dest : (latchIdentity r s).dest = s.dest := rfl
@[simp] theorem latchIdentity_suid : (latchIdentity r s).suid = s.suid := rfl
@[simp] theorem latchIdentity_handler : (latchIdentity r s).handler = s.handler := rfl
@[simp] theorem latchIdentity_verbose : (latchIdentity r s).verbose = s.verbose := rfl
@[simp] theorem latchIdentity_hdr : (latchIdentity r s).hdr = s.hdr := rfl
@[simp] theorem latchIdentity_pbuf : (latchIdentity r s).pbuf = s.pbuf := rfl
@[simp] theorem latchIdentity_ring : (latchIdentity r s).ring = s.ring := rfl
@[simp] theorem latchIdentity_wp : (latchIdentity r s).wp = s.wp := rfl
@[simp] theorem latchIdentity_cnt : (latchIdentity r s).cnt = s.cnt := rfl
@[simp] theorem latchIdentity_seq : (latchIdentity r s).seq = s.seq := rfl
@[simp] theorem latchIdentity_drainCnt : (latchIdentity r s).drainCnt = s.drainCnt := rfl
@[simp] theorem latchIdentity_busy : (latchIdentity r s).busy = s.busy := rfl
@[simp] theorem latchIdentity_rxbuf : (latchIdentity r s).rxbuf = s.rxbuf := rfl
@[simp] theorem latchIdentity_txlog : (latchIdentity r s).txlog = s.txlog := rfl
@[simp] theorem latchIdentity_notelog : (latchIdentity r s).notelog = s.notelog := rfl
@[simp] theorem latchIdentity_statuslog : (latchIdentity r s).statuslog = s.statuslog := rfl
@[simp] theorem latchIdentity_incoming : (latchIdentity r s).incoming = s.incoming := rfl
@[simp] theorem latchIdentity_requests : (latchIdentity r s).requests = s.requests := rfl
@[simp] theorem latchIdentity_replies : (latchIdentity r s).replies = s.replies := rfl

end

/-! ## setSrc -/

section
variable (o : Option Byte) (s : State)

@[simp] theorem setSrc_cfg : (setSrc o s).cfg = s.cfg := rfl
@[simp] theorem setSrc_src : (setSrc o s).src = o.getD s.src := rfl
@[simp] theorem setSrc_dest : (setSrc o s).dest = s.dest := rfl
@[simp] theorem setSrc_suid : (setSrc o s).suid = s.suid := rfl
@[simp] theorem setSrc_handler : (setSrc o s).handler = s.handler := rfl
@[simp] theorem setSrc_verbose : (setSrc o s).verbose = s.verbose := rfl
@[simp] theorem setSrc_hdr : (setSrc o s).hdr = s.hdr := rfl
@[simp] theorem setSrc_pbuf : (setSrc o s).pbuf = s.pbuf := rfl
@[simp] theorem setSrc_ring : (setSrc o s).ring = s.ring := rfl
@[simp] theorem setSrc_wp : (setSrc o s).wp = s.wp := rfl
@[simp] theorem setSrc_cnt : (setSrc o s).cnt = s.cnt := rfl
@[simp] theorem setSrc_ident : (setSrc o s).ident = s.ident := rfl
@[simp] theorem setSrc_seq : (setSrc o s).seq = s.seq := rfl
@[simp] theorem setSrc_drainCnt : (setSrc o s).drainCnt = s.drainCnt := rfl
@[simp] theorem setSrc_busy : (setSrc o s).busy = s.busy := rfl
@[simp] theorem setSrc_rxbuf : (setSrc o s).rxbuf = s.rxbuf := rfl
@[simp] theorem setSrc_txlog : (setSrc o s).txlog = s.txlog := rfl
@[simp] theorem setSrc_notelog : (setSrc o s).notelog = s.notelog := rfl
@[simp] theorem setSrc_statuslog : (setSrc o s).statuslog = s.statuslog := rfl
@[simp] theorem setSrc_incoming : (setSrc o s).incoming = s.incoming := rfl
@[simp] theorem setSrc_requests : (setSrc o s).requests = s.requests := rfl
@[simp] theorem setSrc_replies : (setSrc o s).replies = s.replies := rfl

end

/-! ## setDest -/

section
variable (d : Byte) (s : State)

@[simp] theorem setDest_cfg : (setDest d s).cfg = s.cfg := rfl
@[simp] theorem setDest_src : (setDest d s).src = s.src := rfl
@[simp] theorem setDest_dest : (setDest d s).dest = some d := rfl
@[simp] theorem setDest_suid : (setDest d s).suid = s.suid := rfl
@[simp] theorem setDest_handler : (setDest d s).handler = s.handler := rfl
@[simp] theorem setDest_verbose : (setDest d s).verbose = s.verbose := rfl
@[simp] theorem setDest_hdr : (setDest d s).hdr = s.hdr := rfl
@[simp] theorem setDest_pbuf : (setDest d s).pbuf = s.pbuf := rfl
@[simp] theorem setDest_ring : (setDest d s).ring = s.ring := rfl
@[simp] theorem setDest_wp : (setDest d s).wp = s.wp := rfl
@[simp] theorem setDest_cnt : (setDest d s).cnt = s.cnt := rfl
@[simp] theorem setDest_ident : (setDest d s).ident = s.ident := rfl
@[simp] theorem setDest_seq : (setDest d s).seq = s.seq := rfl
@[simp] theorem setDest_drainCnt : (setDest d s).drainCnt = s.drainCnt := rfl
@[simp] theorem setDest_busy : (setDest d s).busy = s.busy := rfl
@[simp] theorem setDest_rxbuf : (setDest d s).rxbuf = s.rxbuf := rfl
@[simp] theorem setDest_txlog : (setDest d s).txlog = s.txlog := rfl
@[simp] theorem setDest_notelog : (setDest d s).notelog = s.notelog := rfl
@[simp] theorem setDest_statuslog : (setDest d s).statuslog = s.statuslog := rfl
@[simp] theorem setDest_incoming : (setDest d s).incoming = s.incoming := rfl
@[simp] theorem setDest_requests : (setDest d s).requests = s.requests := rfl
@[simp] theorem setDest_replies : (setDest d s).replies = s.replies := rfl

end

/-! ## resetBlock -/

section
variable (s : State)

@[simp] theorem resetBlock_cfg : (resetBlock s).cfg = s.cfg := rfl
@[simp] theorem resetBlock_src : (resetBlock s).src = srcDefault := rfl
@[simp] theorem resetBlock_dest : (resetBlock s).dest = none := rfl
@[simp] theorem resetBlock_suid : (resetBlock s).suid = none := rfl
@[simp] theorem resetBlock_handler : (resetBlock s).handler = false := rfl
@[simp] theorem resetBlock_verbose : (resetBlock s).verbose = s.cfg.verboseReset := rfl
@[simp] theorem resetBlock_hdr : (resetBlock s).hdr = State.reset.hdr := rfl
@[simp] theorem resetBlock_pbuf : (resetBlock s).pbuf = State.reset.pbuf := rfl
@[simp] theorem resetBlock_ring : (resetBlock s).ring = State.reset.ring := rfl
@[simp] theorem resetBlock_wp : (resetBlock s).wp = 0 := rfl
@[simp] theorem resetBlock_cnt : (resetBlock s).cnt = 0 := rfl
@[simp] theorem resetBlock_ident : (resetBlock s).ident = none := rfl
@[simp] theorem resetBlock_seq : (resetBlock s).seq = .idle := rfl
@[simp] theorem resetBlock_drainCnt : (resetBlock s).drainCnt = 0 := rfl
@[simp] theorem resetBlock_busy : (resetBlock s).busy = false := rfl
@[simp] theorem resetBlock_rxbuf : (resetBlock s).rxbuf = s.rxbuf := rfl
@[simp] theorem resetBlock_txlog : (resetBlock s).txlog = s.txlog := rfl
@[simp] theorem resetBlock_notelog : (resetBlock s).notelog = s.notelog := rfl
@[simp] theorem resetBlock_statuslog : (resetBlock s).statuslog = s.statuslog := rfl
@[simp] theorem resetBlock_incoming : (resetBlock s).incoming = s.incoming := rfl
@[simp] theorem resetBlock_requests : (resetBlock s).requests = s.requests := rfl
@[simp] theorem resetBlock_replies : (resetBlock s).replies = s.replies := rfl

end

/-! ## deliver -/

section
variable (s : State)

@[simp] theorem deliver_cfg : (deliver s).cfg = s.cfg := by unfold deliver; split <;> rfl
@[simp] theorem deliver_src : (deliver s).src = s.src := by unfold deliver; split <;> rfl
@[simp] theorem deliver_dest : (deliver s).dest = s.dest := by unfold deliver; split <;> rfl
@[simp] theorem deliver_suid : (deliver s).suid = s.suid := by unfold deliver; split <;> rfl
@[simp] theorem deliver_handler : (deliver s).handler = s.handler := by unfold deliver; split <;> rfl
@[simp] theorem deliver_verbose : (deliver s).verbose = s.verbose := by unfold deliver; split <;> rfl
@[simp] theorem deliver_hdr : (deliver s).hdr = s.hdr := by unfold deliver; split <;> rfl
@[simp] theorem deliver_pbuf : (deliver s).pbuf = s.pbuf := by unfold deliver; split <;> rfl
@[simp] theorem deliver_ring : (deliver s).ring = s.ring := by unfold deliver; split <;> rfl
@[simp] theorem deliver_wp : (deliver s).wp = s.wp := by unfold deliver; split <;> rfl
@[simp] theorem deliver_cnt : (deliver s).cnt = s.cnt := by unfold deliver; split <;> rfl
@[simp] theorem deliver_ident : (deliver s).ident = s.ident := by unfold deliver; split <;> rfl
@[simp] theorem deliver_seq : (deliver s).seq = s.seq := by unfold deliver; split <;> rfl
@[simp] theorem deliver_drainCnt : (deliver s).drainCnt = s.drainCnt := by unfold deliver; split <;> rfl
@[simp] theorem deliver_busy : (deliver s).busy = s.busy := by unfold deliver; split <;> rfl
@[simp] theorem deliver_txlog : (deliver s).txlog = s.txlog := by unfold deliver; split <;> rfl
@[simp] theorem deliver_notelog : (deliver s).notelog = s.notelog := by unfold deliver; split <;> rfl
@[simp] theorem deliver_statuslog : (deliver s).statuslog = s.statuslog := by unfold deliver; split <;> rfl
@[simp] theorem deliver_requests : (deliver s).requests = s.requests := by unfold deliver; split <;> rfl
@[simp] theorem deliver_replies : (deliver s).replies = s.replies := by unfold deliver; split <;> rfl

end

/-! ## rxRead -/

section
variable (n : Nat) (s : State)

@[simp] theorem rxRead_cfg : ((rxRead n s).2).cfg = s.cfg := by unfold rxRead; split <;> simp
@[simp] theorem rxRead_src : ((rxRead n s).2).src = s.src := by unfold rxRead; split <;> simp
@[simp] theorem rxRead_dest : ((rxRead n s).2).dest = s.dest := by unfold rxRead; split <;> simp
@[simp] theorem rxRead_suid : ((rxRead n s).2).suid = s.suid := by unfold rxRead; split <;> simp
@[simp] theorem rxRead_handler : ((rxRead n s).2).handler = s.handler := by unfold rxRead; split <;> simp
@[simp] theorem rxRead_verbose : ((rxRead n s).2).verbose = s.verbose := by unfold rxRead; split <;> simp
@[simp] theorem rxRead_hdr : ((rxRead n s).2).hdr = s.hdr := by unfold rxRead; split <;> simp
@[simp] theorem rxRead_pbuf : ((rxRead n s).2).pbuf = s.pbuf := by unfold rxRead; split <;> simp
@[simp] theorem rxRead_ring : ((rxRead n s).2).ring = s.ring := by unfold rxRead; split <;> simp
@[simp] theorem rxRead_wp : ((rxRead n s).2).wp = s.wp := by unfold rxRead; split <;> simp
@[simp] theorem rxRead_cnt : ((rxRead n s).2).cnt = s.cnt := by unfold rxRead; split <;> simp
@[simp] theorem rxRead_ident : ((rxRead n s).2).ident = s.ident := by unfold rxRead; split <;> simp
@[simp] theorem rxRead_seq : ((rxRead n s).2).seq = s.seq := by unfold rxRead; split <;> simp
@[simp] theorem rxRead_drainCnt : ((rxRead n s).2).drainCnt = s.drainCnt := by unfold rxRead; split <;> simp
@[simp] theorem rxRead_busy : ((rxRead n s).2).busy = s.busy := by unfold rxRead; split <;> simp
@[simp] theorem rxRead_txlog : ((rxRead n s).2).txlog = s.txlog := by unfold rxRead; split <;> simp
@[simp] theorem rxRead_notelog : ((rxRead n s).2).notelog = s.notelog := by unfold rxRead; split <;> simp
@[simp] theorem rxRead_statuslog : ((rxRead n s).2).statuslog = s.statuslog := by unfold rxRead; split <;> simp
@[simp] theorem rxRead_requests : ((rxRead n s).2).requests = s.requests := by unfold rxRead; split <;> simp
@[simp] theorem rxRead_replies : ((rxRead n s).2).replies = s.replies := by unfold rxRead; split <;> simp

end

/-! ## atRead -/

section
variable (n : Nat) (s : State)

@[simp] theorem atRead_cfg : (atRead n s).cfg = s.cfg := by unfold atRead; split <;> simp
@[simp] theorem atRead_src : (atRead n s).src = s.src := by unfold atRead; split <;> simp
@[simp] theorem atRead_dest : (atRead n s).dest = s.dest := by unfold atRead; split <;> simp
@[simp] theorem atRead_suid : (atRead n s).suid = s.suid := by unfold atRead; split <;> simp
@[simp] theorem atRead_handler : (atRead n s).handler = s.handler := by unfold atRead; split <;> simp
@[simp] theorem atRead_verbose : (atRead n s).verbose = s.verbose := by unfold atRead; split <;> simp
@[simp] theorem atRead_hdr : (atRead n s).hdr = s.hdr := by unfold atRead; split <;> simp
@[simp] theorem atRead_pbuf : (atRead n s).pbuf = s.pbuf := by unfold atRead; split <;> simp
@[simp] theorem atRead_ring : (atRead n s).ring = s.ring := by unfold atRead; split <;> simp
@[simp] theorem atRead_wp : (atRead n s).wp = s.wp := by unfold atRead; split <;> simp
@[simp] theorem atRead_cnt : (atRead n s).cnt = s.cnt := by unfold atRead; split <;> simp
@[simp] theorem atRead_ident : (atRead n s).ident = s.ident := by unfold atRead; split <;> simp
@[simp] theorem atRead_seq : (atRead n s).seq = s.seq := by unfold atRead; split <;> simp
@[simp] theorem atRead_drainCnt : (atRead n s).drainCnt = s.drainCnt := by unfold atRead; split <;> simp
@[simp] theorem atRead_busy : (atRead n s).busy = s.busy := by unfold atRead; split <;> simp
@[simp] theorem atRead_txlog : (atRead n s).txlog = s.txlog := by unfold atRead; split <;> simp
@[simp] theorem atRead_notelog : (atRead n s).notelog = s.notelog := by unfold atRead; split <;> simp
@[simp] theorem atRead_statuslog : (atRead n s).statuslog = s.statuslog := by unfold atRead; split <;> simp
@[simp] theorem atRead_requests : (atRead n s).requests = s.requests := by unfold atRead; split <;> simp
@[simp] theorem atRead_replies : (atRead n s).replies = s.replies := by unfold atRead; split <;> simp

end

/-! ## afterRead -/

section
variable (n : Nat) (s : State)

@[simp] theorem afterRead_cfg : (afterRead n s).cfg = s.cfg := by simp [afterRead]
@[simp] theorem afterRead_src : (afterRead n s).src = s.src := by simp [afterRead]
@[simp] theorem afterRead_dest : (afterRead n s).dest = s.dest := by simp [afterRead]
@[simp] theorem afterRead_suid : (afterRead n s).suid = s.suid := by simp [afterRead]
@[simp] theorem afterRead_handler : (afterRead n s).handler = s.handler := by simp [afterRead]
@[simp] theorem afterRead_verbose : (afterRead n s).verbose = s.verbose := by simp [afterRead]
@[simp] theorem afterRead_hdr : (afterRead n s).hdr = s.hdr := by simp [afterRead]
@[simp] theorem afterRead_pbuf : (afterRead n s).pbuf = s.pbuf := by simp [afterRead]
@[simp] theorem afterRead_ring : (afterRead n s).ring = s.ring := by simp [afterRead]
@[simp] theorem afterRead_wp : (afterRead n s).wp = s.wp := by simp [afterRead]
@[simp] theorem afterRead_cnt : (afterRead n s).cnt = s.cnt := by simp [afterRead]
@[simp] theorem afterRead_ident : (afterRead n s).ident = s.ident := by simp [afterRead]
@[simp] theorem afterRead_drainCnt : (afterRead n s).drainCnt = s.drainCnt := by simp [afterRead]
@[simp] theorem afterRead_busy : (afterRead n s).busy = s.busy := by simp [afterRead]
@[simp] theorem afterRead_txlog : (afterRead n s).txlog = s.txlog := by simp [afterRead]
@[simp] theorem afterRead_notelog : (afterRead n s).notelog = s.notelog := by simp [afterRead]
@[simp] theorem afterRead_statuslog : (afterRead n s).statuslog = s.statuslog := by simp [afterRead]
@[simp] theorem afterRead_requests : (afterRead n s).requests = s.requests := by simp [afterRead]
@[simp] theorem afterRead_replies : (afterRead n s).replies = s.replies := by simp [afterRead]

end

/-! ## notify -/

section
variable (k : NoteKind) (m : Message) (s : State)

@[simp] theorem notify_cfg : (notify k m s).cfg = s.cfg := by unfold notify; split <;> rfl
@[simp] theorem notify_src : (notify k m s).src = s.src := by unfold notify; split <;> rfl
@[simp] theorem notify_dest : (notify k m s).dest = s.dest := by unfold notify; split <;> rfl
@[simp] theorem notify_suid : (notify k m s).suid = s.suid := by unfold notify; split <;> rfl
@[simp] theorem notify_handler : (notify k m s).handler = s.handler := by unfold notify; split <;> rfl
@[simp] theorem notify_verbose : (notify k m s).verbose = s.verbose := by unfold notify; split <;> rfl
@[simp] theorem notify_hdr : (notify k m s).hdr = s.hdr := by unfold notify; split <;> rfl
@[simp] theorem notify_pbuf : (notify k m s).pbuf = s.pbuf := by unfold notify; split <;> rfl
@[simp] theorem notify_ring : (notify k m s).ring = s.ring := by unfold notify; split <;> rfl
@[simp] theorem notify_wp : (notify k m s).wp = s.wp := by unfold notify; split <;> rfl
@[simp] theorem notify_cnt : (notify k m s).cnt = s.cnt := by unfold notify; split <;> rfl
@[simp] theorem notify_ident : (notify k m s).ident = s.ident := by unfold notify; split <;> rfl
@[simp] theorem notify_seq : (notify k m s).seq = s.seq := by unfold notify; split <;> rfl
@[simp] theorem notify_drainCnt : (notify k m s).drainCnt = s.drainCnt := by unfold notify; split <;> rfl
@[simp] theorem notify_busy : (notify k m s).busy = s.busy := by unfold notify; split <;> rfl
@[simp] theorem notify_rxbuf : (notify k m s).rxbuf = s.rxbuf := by unfold notify; split <;> rfl
@[simp] theorem notify_txlog : (notify k m s).txlog = s.txlog := by unfold notify; split <;> rfl
@[simp] theorem notify_statuslog : (notify k m s).statuslog = s.statuslog := by unfold notify; split <;> rfl
@[simp] theorem notify_incoming : (notify k m s).incoming = s.incoming := by unfold notify; split <;> rfl
@[simp] theorem notify_requests : (notify k m s).requests = s.requests := by unfold notify; split <;> rfl
@[simp] theorem notify_replies : (notify k m s).replies = s.replies := by unfold notify; split <;> rfl

end

/-! ## takeRequest -/

section
variable (l : List Bytes) (s : State)

@[simp] theorem takeRequest_cfg : (takeRequest l s).cfg = s.cfg := by simp [takeRequest]
@[simp] theorem takeRequest_src : (takeRequest l s).src = s.src := by simp [takeRequest]
@[simp] theorem takeRequest_dest : (takeRequest l s).dest = s.dest := by simp [takeRequest]
@[simp] theorem takeRequest_suid : (takeRequest l s).suid = s.suid := by simp [takeRequest]
@[simp] theorem takeRequest_handler : (takeRequest l s).handler = s.handler := by simp [takeRequest]
@[simp] theorem takeRequest_verbose : (takeRequest l s).verbose = s.verbose := by simp [takeRequest]
@[simp] theorem takeRequest_hdr : (takeRequest l s).hdr = s.hdr := by simp [takeRequest]
@[simp] theorem takeRequest_pbuf : (takeRequest l s).pbuf = s.pbuf := by simp [takeRequest]
@[simp] theorem takeRequest_ring : (takeRequest l s).ring = s.ring := by simp [takeRequest]
@[simp] theorem takeRequest_wp : (takeRequest l s).wp = s.wp := by simp [takeRequest]
@[simp] theorem takeRequest_cnt : (takeRequest l s).cnt = s.cnt := by simp [takeRequest]
@[simp] theorem takeRequest_ident : (takeRequest l s).ident = s.ident := by simp [takeRequest]
@[simp] theorem takeRequest_seq : (takeRequest l s).seq = s.seq := by simp [takeRequest]
@[simp] theorem takeRequest_drainCnt : (takeRequest l s).drainCnt = s.drainCnt := by simp [takeRequest]
@[simp] theorem takeRequest_busy : (takeRequest l s).busy = s.busy := by simp [takeRequest]
@[simp] theorem takeRequest_txlog : (takeRequest l s).txlog = s.txlog := by simp [takeRequest]
@[simp] theorem takeRequest_notelog : (takeRequest l s).notelog = s.notelog := by simp [takeRequest]
@[simp] theorem takeRequest_statuslog : (takeRequest l s).statuslog = s.statuslog := by simp [takeRequest]
@[simp] theorem takeRequest_replies : (takeRequest l s).replies = s.replies := by simp [takeRequest]

end

end Sys2Proof.Machine
end

