-- ==== Sys2Proof/Laws/Ops.lean ====
section
/-! SUPPORT. One lemma per shared operation that says all it can do. -/

namespace Sys2Proof.Machine

/-! ## Bodies -/

section
variable {α β : Type}

@[simp] theorem ret_fst (v : α) (s : State) : (ret v s).1 = s := rfl
@[simp] theorem ret_snd (v : α) (s : State) : (ret v s).2 = .ok v := rfl
@[simp] theorem raise_fst (e : ErrorKind) (s : State) : (raise (α := α) e s).1 = s := rfl
@[simp] theorem raise_snd (e : ErrorKind) (s : State) : (raise (α := α) e s).2 = .raised e := rfl
@[simp] theorem andThen_ret (v : α) (s : State) (f : α → State → Run β) : (ret v s).andThen f = f v s := rfl
@[simp] theorem andThen_raise (e : ErrorKind) (s : State) (f : α → State → Run β) : (raise e s).andThen f = raise e s := rfl
@[simp] theorem orRaise_some (v : α) (e : ErrorKind) (s : State) : orRaise (some v) e s = ret v s := rfl
@[simp] theorem orRaise_none (e : ErrorKind) (s : State) : orRaise (none : Option α) e s = raise e s := rfl
@[simp] theorem reply_ok (f : α → Reply) (v : α) : (Res.ok v).reply f = f v := rfl
@[simp] theorem reply_raised (f : α → Reply) (e : ErrorKind) : (Res.raised e : Res α).reply f = .error e := rfl

/-- A body ends with a value or an error. -/
theorem run_cases (m : Run α) : (∃ v, m = ret v m.1) ∨ ∃ e, m = raise e m.1 := by
  obtain ⟨s, v | e⟩ := m
  exacts [.inl ⟨v, rfl⟩, .inr ⟨e, rfl⟩]

/-- What follows a value runs on it; what follows an error does not run. -/
theorem andThen_cases (m : Run α) (f : α → State → Run β) :
    (∃ v, m = ret v m.1 ∧ m.andThen f = f v m.1) ∨ ∃ e, m = raise e m.1 ∧ m.andThen f = raise e m.1 := by
  obtain ⟨v, h⟩ | ⟨e, h⟩ := run_cases m
  · exact .inl ⟨v, h, by rw [h]; rfl⟩
  · exact .inr ⟨e, h, by rw [h]; rfl⟩

/-- A lookup leaves the state alone. -/
@[simp] theorem orRaise_fst (o : Option α) (e : ErrorKind) (s : State) : (orRaise o e s).1 = s := by cases o <;> rfl

/-- A transaction always answers a next state. -/
theorem transact_eq (f : α → Reply) (body : State → Run α) (s : State) :
    transact f body s =
      .next (finish ((body { s with busy := true }).2.reply f) (body { s with busy := true }).1) := rfl

end

/-! ## The RX stream -/

@[simp] theorem takeRequest_requests (rest : List Bytes) (s : State) : (takeRequest rest s).requests = rest := by
  simp [takeRequest]

/-- An arrival adds to the end of the stream what the environment held ready, and loses nothing (R61). -/
@[simp] theorem deliver_stream (s : State) :
    (deliver s).rxbuf ++ (deliver s).incoming.flatten = s.rxbuf ++ s.incoming.flatten := by
  unfold deliver; split <;> simp [*]

@[simp] theorem atRead_stream (n : Nat) (s : State) :
    (atRead n s).rxbuf ++ (atRead n s).incoming.flatten = s.rxbuf ++ s.incoming.flatten := by
  unfold atRead; split <;> simp

@[simp] theorem deliver_of_nil {s : State} (h : s.incoming = []) : deliver s = s := by simp [deliver, h]

@[simp] theorem atRead_of_nil {n : Nat} {s : State} (h : s.incoming = []) : atRead n s = s := by
  unfold atRead; split <;> simp [h]

@[simp] theorem atRead_zero (s : State) : atRead 0 s = s := rfl

/-- What a read finds depends on the stream and the arrivals alone. -/
theorem atRead_congr (n : Nat) {s t : State} (h1 : t.rxbuf = s.rxbuf) (h2 : t.incoming = s.incoming) :
    (atRead n t).rxbuf = (atRead n s).rxbuf ∧ (atRead n t).incoming = (atRead n s).incoming := by
  unfold atRead deliver
  split
  · exact ⟨h1, h2⟩
  · rw [h2]; cases s.incoming <;> simp [h1, h2]

/-- A read takes the first bytes of what is there when it is answered (R64). -/
theorem rxRead_eq (n : Nat) (s : State) :
    rxRead n s = ((atRead n s).rxbuf.take n, { atRead n s with rxbuf := (atRead n s).rxbuf.drop n }) := by
  unfold rxRead atRead
  split
  · next h => subst h; simp
  · rfl

/-- The environment acts on RXBUF alone, so a write of SEQ before an arrival is one after it. -/
theorem deliver_setSeq (q : Seq) (s : State) : deliver (setSeq q s) = setSeq q (deliver s) := by
  unfold deliver setSeq; cases h : s.incoming <;> simp [h]

theorem atRead_setSeq (n : Nat) (q : Seq) (s : State) : atRead n (setSeq q s) = setSeq q (atRead n s) := by
  unfold atRead; split
  · rfl
  · exact deliver_setSeq q s

/-- The payload read (R147): short, it raises with what had arrived; in full, PBUF holds the payload. -/
theorem readPayload_eq (l : Word16) (s : State) :
    readPayload l s =
      if (atRead l.toNat s).rxbuf.length < l.toNat then
        raise (.shortPayload l.toNat (atRead l.toNat s).rxbuf.length) (afterRead l.toNat s)
      else ret ((atRead l.toNat s).rxbuf.take l.toNat)
        (setPbuf ((atRead l.toNat s).rxbuf.take l.toNat) (afterRead l.toNat s)) := by
  unfold readPayload
  simp only [rxRead_eq, atRead_setSeq, setSeq_rxbuf, List.length_take]
  by_cases h : (atRead l.toNat s).rxbuf.length < l.toNat
  · rw [if_pos (by omega), if_pos h, Nat.min_eq_right (by omega)]; rfl
  · rw [if_neg (by omega), if_neg h]; rfl

/-- The header read (R141): no byte, a timeout; fewer than six, a frame error; else HDR holds the header. -/
theorem readHeader_eq (s : State) :
    readHeader s =
      match Header.ofBytes? (atRead 6 s).rxbuf with
      | some h => ret h (setHdr h (afterRead 6 s))
      | none =>
        if (atRead 6 s).rxbuf.length = 0 then raise .noFrame (afterRead 6 s)
        else raise (.shortRead (atRead 6 s).rxbuf.length) (afterRead 6 s) := by
  have key : Header.ofBytes? ((atRead 6 s).rxbuf.take 6) = Header.ofBytes? (atRead 6 s).rxbuf := by
    generalize (atRead 6 s).rxbuf = b
    match b with
    | [] | [_] | [_, _] | [_, _, _] | [_, _, _, _] | [_, _, _, _, _] => rfl
    | _ :: _ :: _ :: _ :: _ :: _ :: _ => rfl
  unfold readHeader
  simp only [rxRead_eq, atRead_setSeq, setSeq_rxbuf, key]
  cases h : Header.ofBytes? (atRead 6 s).rxbuf with
  | some hd => rfl
  | none =>
    have hl := Header.ofBytes?_eq_none.mp h
    have : ((atRead 6 s).rxbuf.take 6).length = (atRead 6 s).rxbuf.length := by simp; omega
    simp only [this]; rfl

/-! ## Ports -/

/-- NOTE_OUT gets the event when VERBOSE = 1 and nothing otherwise (R29). -/
@[simp] theorem notify_notelog (k : NoteKind) (m : Message) (s : State) :
    (notify k m s).notelog = s.notelog ++ (if s.verbose then [(k, m)] else []) := by
  unfold notify; split <;> simp

end Sys2Proof.Machine
end

