-- ==== Sys2Proof/Laws/Classifier.lean ====
section
/-! SUPPORT. What the classifier does: on a whole frame, step by step and over the drain; what it leaves alone; which errors
it ends with. -/

namespace Sys2Proof.Machine

/-- The context of classification depends on four fields only (R94). -/
theorem frameContext_congr {s t : State} (h1 : t.suid = s.suid) (h2 : t.ring = s.ring) (h3 : t.wp = s.wp)
    (h4 : t.cnt = s.cnt) (h5 : t.cfg = s.cfg) (h6 : t.src = s.src) : t.frameContext = s.frameContext := by
  simp [State.frameContext, State.newest, State.slot, h1, h2, h3, h4, h5, h6]

@[simp] theorem frameContext_afterFrame (f : Frame) (data rest : Bytes) (s : State) :
    (afterFrame f data rest s).frameContext = s.frameContext := rfl

@[simp] theorem frameContext_setDrainCnt (n : Nat) (s : State) : (setDrainCnt n s).frameContext = s.frameContext := rfl

@[simp] theorem frameContext_setHdr (h : Header) (s : State) : (setHdr h s).frameContext = s.frameContext := rfl

@[simp] theorem frameContext_afterRead (n : Nat) (s : State) : (afterRead n s).frameContext = s.frameContext := by
  apply frameContext_congr <;> simp

/-! ## One step -/

/-- A step reads the header and takes the frame it classifies as. -/
theorem clsStep_eq (s : State) :
    clsStep s = (readHeader s).andThen fun h s => takeFrame (classify s.frameContext h) s := rfl

/-- With six bytes there, a step is the frame's class taken after the header (R148). -/
theorem clsStep_of_header {s : State} {h : Header} (e : Header.ofBytes? (atRead 6 s).rxbuf = some h) :
    clsStep s = takeFrame (classify s.frameContext h) (setHdr h (afterRead 6 s)) := by
  rw [clsStep_eq, readHeader_eq, e]; simp

/-- A payload that is there is read whole. -/
theorem readPayload_of_bytes {l : Word16} {s : State} {data rest : Bytes} (hi : s.incoming = [])
    (hr : s.rxbuf = data ++ rest) (hl : data.length = l.toNat) :
    readPayload l s = ret data { s with rxbuf := rest, seq := .idle, pbuf := data } := by
  rw [readPayload_eq, atRead_of_nil hi, hr, if_neg (by simp [hl]), ← hl, List.take_left]
  congr 1
  simp [setPbuf, afterRead, atRead_of_nil hi, hr]

/-- A whole frame of a class is taken with the effect of its class (R142 to R147). -/
theorem takeFrame_of_wire {f : Frame} {data rest : Bytes} {s : State} (hi : s.incoming = [])
    (hr : s.rxbuf = data ++ rest) (hq : s.seq = .idle) (hh : s.hdr = f.header.word)
    (hg : goodFrame s.frameContext s.handler (f, data) = true) :
    takeFrame f s = ret (frameOutcome f data) (afterFrame f data rest s) := by
  simp only [goodFrame, fits, Bool.and_eq_true, decide_eq_true_eq] at hg
  obtain ⟨⟨-, hl⟩, hn⟩ := hg
  cases f with
  | hwResponse p1 p2 d c =>
    obtain rfl : data = [] := List.length_eq_zero_iff.mp hl
    simp only [takeFrame, takeHwResponse]
    refine congrArg (ret _) ?_
    unfold notify afterFrame emitNote
    cases hv : s.verbose <;> cases s <;> simp_all [longForm, noteEvents, statusEvents, frameMessage, shortMessage]
  | hwRichResponse l d c =>
    simp only [takeFrame, takeHwRichResponse, readPayload_of_bytes hi hr hl, andThen_ret]
    refine congrArg (ret _) ?_
    unfold notify afterFrame emitNote
    cases hv : s.verbose <;> cases s <;> simp_all [longForm, noteEvents, statusEvents, frameMessage, longMessage]
  | statusUpdate i l d c =>
    simp only [takeFrame, takeStatusUpdate, readPayload_of_bytes hi hr hl, andThen_ret]
    simp only [hn, if_true]
    refine congrArg (ret _) ?_
    unfold emitStatus afterFrame
    cases s; simp_all [longForm, noteEvents, statusEvents, frameMessage, longMessage]
  | answerLong i l d c =>
    simp only [takeFrame, takeAnswerLong, readPayload_of_bytes hi hr hl, andThen_ret]
    unfold afterFrame
    cases s; simp_all [longForm, noteEvents, statusEvents, frameMessage, longMessage, frameOutcome]
  | answerShort i p1 p2 d c =>
    obtain rfl : data = [] := List.length_eq_zero_iff.mp hl
    simp only [takeFrame, takeAnswerShort]
    unfold afterFrame
    cases s; simp_all [longForm, noteEvents, statusEvents, frameMessage, shortMessage, frameOutcome]

/-- A step on a whole frame at the front of RXBUF (R148). -/
theorem clsStep_of_wire {f : Frame} {data rest : Bytes} {s : State} (hi : s.incoming = [])
    (hr : s.rxbuf = wire f data ++ rest) (hg : goodFrame s.frameContext s.handler (f, data) = true) :
    clsStep s = ret (frameOutcome f data) (afterFrame f data rest s) := by
  have hb : s.rxbuf = f.header.bytes ++ (data ++ rest) := by rw [hr, wire, List.append_assoc]
  have hc : classify s.frameContext f.header = f := by
    simp only [goodFrame, Bool.and_eq_true, decide_eq_true_eq] at hg
    exact hg.1.1
  rw [clsStep_of_header (h := f.header) (by rw [atRead_of_nil hi, hb]; rfl), hc]
  have hrest : (setHdr f.header (afterRead 6 s)).rxbuf = data ++ rest := by
    simp [afterRead, atRead_of_nil hi, hb, Header.bytes]
  rw [takeFrame_of_wire (by simp [afterRead, hi]) hrest rfl rfl
    (by simpa using hg)]
  congr 1
  cases s; simp_all [afterFrame, setHdr, afterRead]

/-! ## The drain -/

/-- The loop body once more: an answer ends the drain, a consumed frame goes on or exhausts the bound (R150, R151). -/
theorem drain_zero (s : State) :
    drain 0 s = (clsStep s).andThen (onFrame fun s => raise (.drainExhausted s.drainCnt) s) := rfl

theorem drain_succ (left : Nat) (s : State) :
    drain (left + 1) s = (clsStep s).andThen (onFrame fun s => drain left (setDrainCnt (s.drainCnt + 1) s)) := rfl

/-- One turn of the loop as R150 writes it, `left` being what DRAIN_MAX leaves. -/
theorem drain_turn (left : Nat) (s : State) :
    drain left s = (clsStep s).andThen fun o s =>
      match o with
      | .answer m => ret m s
      | .consumed _ =>
        if left = 0 then raise (.drainExhausted s.drainCnt) s
        else drain (left - 1) (setDrainCnt (s.drainCnt + 1) s) := by
  cases left <;> rfl

/-- What one step and a write of DRAIN_CNT keep, the drain keeps. -/
theorem drain_induct {P : State → Prop} (hstep : ∀ s, P s → P (clsStep s).1)
    (hcnt : ∀ n s, P s → P (setDrainCnt n s)) : ∀ left s, P s → P (drain left s).1
  | 0, s, h => by
    rw [drain_zero]
    obtain ⟨o, e, e'⟩ | ⟨e, -, e'⟩ := andThen_cases (clsStep s) (onFrame fun s => raise (.drainExhausted s.drainCnt) s)
    · rw [e']; cases o <;> exact hstep s h
    · rw [e']; exact hstep s h
  | left + 1, s, h => by
    rw [drain_succ]
    obtain ⟨o, e, e'⟩ | ⟨e, -, e'⟩ :=
      andThen_cases (clsStep s) (onFrame fun s => drain left (setDrainCnt (s.drainCnt + 1) s))
    · rw [e']
      cases o with
      | answer m => exact hstep s h
      | consumed c => exact drain_induct hstep hcnt left _ (hcnt _ _ (hstep s h))
    · rw [e']; exact hstep s h

/-- An error of the drain is an error of a step or the exhausted bound (R150). -/
theorem drain_raises {P : ErrorKind → Prop} (hstep : ∀ s e t, clsStep s = raise e t → P e)
    (hbound : ∀ n, P (.drainExhausted n)) : ∀ left s e t, drain left s = raise e t → P e
  | 0, s, e, t, h => by
    rw [drain_zero] at h
    obtain ⟨o, -, e'⟩ | ⟨e', he, e''⟩ := andThen_cases (clsStep s) (onFrame fun s => raise (.drainExhausted s.drainCnt) s)
    · rw [e'] at h
      cases o with
      | answer m => cases h
      | consumed c => cases h; exact hbound _
    · rw [e''] at h; cases h; exact hstep _ _ _ he
  | left + 1, s, e, t, h => by
    rw [drain_succ] at h
    obtain ⟨o, -, e'⟩ | ⟨e', he, e''⟩ :=
      andThen_cases (clsStep s) (onFrame fun s => drain left (setDrainCnt (s.drainCnt + 1) s))
    · rw [e'] at h
      cases o with
      | answer m => cases h
      | consumed c => exact drain_raises hstep hbound left _ _ _ h
    · rw [e''] at h; cases h; exact hstep _ _ _ he

end Sys2Proof.Machine
end

