-- ==== Sys2Proof/Laws/Encoding.lean ====
section
/-! SUPPORT. Each reader of the host port reads back what the encoder writes, with the bytes after it left over; and a frame
encoded is a frame decoded. -/

namespace Sys2Proof

section
variable {α β : Type}

@[simp] theorem Decoded.andThen_ok (a : α) (b : Bytes) (f : α → Bytes → Decoded β) :
    Decoded.andThen (.ok (a, b)) f = f a b := rfl

@[simp] theorem Decoded.andThen_error (e : DecodeError) (f : α → Bytes → Decoded β) :
    Decoded.andThen (.error e) f = .error e := rfl

end

@[simp] theorem readByte_cons (b : Byte) (rest : Bytes) : readByte (b :: rest) = .ok (b, rest) := rfl

@[simp] theorem readWord16_bytes16 (v : Word16) (rest : Bytes) : readWord16 (bytes16 v ++ rest) = .ok (v, rest) := by
  simp [bytes16, readWord16]

@[simp] theorem readWord32_bytes32 (v : Word32) (rest : Bytes) : readWord32 (bytes32 v ++ rest) = .ok (v, rest) := by
  simp [bytes32, readWord32]

theorem readNumber_encodeNumber {n : Nat} (h : numberFits n = true) (rest : Bytes) :
    readNumber (encodeNumber n ++ rest) = .ok (n, rest) := by
  have : n < 4294967296 := by simpa [numberFits] using h
  simp [readNumber, encodeNumber, Nat.mod_eq_of_lt this]

theorem readBytes_encodeBytes {b : Bytes} (h : bytesFit b = true) (rest : Bytes) :
    readBytes (encodeBytes b ++ rest) = .ok (b, rest) := by
  have : b.length < 4294967296 := by simpa [bytesFit] using h
  simp [readBytes, encodeBytes, encodeNumber, List.append_assoc, Nat.mod_eq_of_lt this]

@[simp] theorem readFlag_encodeFlag (b : Bool) (rest : Bytes) : readFlag (encodeFlag b ++ rest) = .ok (b, rest) := by
  cases b <;> simp [encodeFlag, readFlag]

/-- An optional operand reads back where its value does. -/
theorem readOption_encodeOption {α : Type} {read : Bytes → Decoded α} {enc : α → Bytes}
    (h : ∀ a rest, read (enc a ++ rest) = .ok (a, rest)) (o : Option α) (rest : Bytes) :
    readOption read (encodeOption enc o ++ rest) = .ok (o, rest) := by
  cases o <;> simp [encodeOption, readOption, readFlag, h]

@[simp] theorem readOption_byte (o : Option Byte) (rest : Bytes) :
    readOption readByte (encodeOption (fun b => [b]) o ++ rest) = .ok (o, rest) :=
  readOption_encodeOption (fun _ _ => rfl) o rest

@[simp] theorem readOption_word16 (o : Option Word16) (rest : Bytes) :
    readOption readWord16 (encodeOption bytes16 o ++ rest) = .ok (o, rest) :=
  readOption_encodeOption readWord16_bytes16 o rest

/-- The decoder of the RX stream on a whole header (R95). -/
@[simp] theorem decodeFrame_bytes (c : FrameContext) (h : Header) (rest : Bytes) :
    decodeFrame c (h.bytes ++ rest) = some (classify c h).toInstr := by
  simp [decodeFrame]

/-- No answer of the reader is a frame class. -/
def OffRx (m : Decoded Instr) : Prop := ∀ i rest, m = .ok (i, rest) → i.fromRx = false

theorem offRx_ok {i : Instr} {b : Bytes} (h : i.fromRx = false) : OffRx (.ok (i, b)) := by
  rintro j rest ⟨⟩; exact h

theorem offRx_error (e : DecodeError) : OffRx (.error e) := by rintro j rest ⟨⟩

theorem offRx_andThen {α : Type} {m : Decoded α} {f : α → Bytes → Decoded Instr} (h : ∀ a b, OffRx (f a b)) :
    OffRx (m.andThen f) := by
  obtain e | ⟨a, b⟩ := m
  · exact offRx_error e
  · exact h a b

/-- The decoder of the host port never answers a frame class: those come from RX alone. -/
theorem decodeOperands_offRx (sel : Nat) (b : Bytes) : OffRx (decodeOperands sel b) := by
  unfold decodeOperands
  split <;>
    repeat first
      | exact offRx_ok rfl
      | exact offRx_error _
      | (refine offRx_andThen fun _ _ => ?_)

theorem decodeRequest_offRx {b rest : Bytes} {i : Instr} (h : decodeRequest b = .ok (i, rest)) : i.fromRx = false := by
  cases b with
  | nil => cases h
  | cons sel b => exact decodeOperands_offRx _ _ _ _ h

end Sys2Proof
end

