-- ==== Sys2Proof/Laws/Frames.lean ====
section
/-! SUPPORT. Which groups of state the shared operations and bodies keep (the column "state written" of R104). -/

namespace Sys2Proof.Machine

@[simp] theorem same_refl (g : Group) (s : State) : g.same s s := by cases g <;> simp [Group.same]

theorem same_trans {g : Group} {s t u : State} (h : g.same s t) (k : g.same t u) : g.same s u := by
  cases g <;> simp_all [Group.same]

/-! ## Updates -/

section
variable {g : Group} (s : State)

theorem same_finish (r : Reply) : g.same s (finish r s) := by cases g <;> simp [Group.same]
theorem same_busy (b : Bool) : g.same s { s with busy := b } := by cases g <;> simp [Group.same]
theorem same_setSeq {q : Seq} (h : g ≠ .sequencer) : g.same s (setSeq q s) := by cases g <;> simp_all [Group.same]
theorem same_setHdr {x : Header} (h : g ≠ .header) : g.same s (setHdr x s) := by cases g <;> simp_all [Group.same]
theorem same_setPbuf {d : Bytes} (h : g ≠ .payload) : g.same s (setPbuf d s) := by cases g <;> simp_all [Group.same]
theorem same_setDrainCnt {n : Nat} (h : g ≠ .drainCount) : g.same s (setDrainCnt n s) := by
  cases g <;> simp_all [Group.same]
theorem same_notify {k : NoteKind} {m : Message} (h : g ≠ .notes) : g.same s (notify k m s) := by
  cases g <;> simp_all [Group.same]
theorem same_emitStatus {m : Message} (h : g ≠ .statuses) : g.same s (emitStatus m s) := by
  cases g <;> simp_all [Group.same]
theorem same_rxFlush (h : g ≠ .rx) : g.same s (rxFlush s) := by cases g <;> simp_all [Group.same]
theorem same_txWrite {b : Bytes} (h : g ≠ .tx) : g.same s (txWrite b s) := by cases g <;> simp_all [Group.same]
theorem same_pushHistory {id : Word16} (h : g ≠ .history) : g.same s (pushHistory id s) := by
  cases g <;> simp_all [Group.same]
theorem same_latchIdentity {r : HardwareIdentity} (h : g ≠ .cache) : g.same s (latchIdentity r s) := by
  cases g <;> simp_all [Group.same]
theorem same_afterRead {n : Nat} (h1 : g ≠ .rx) (h2 : g ≠ .sequencer) : g.same s (afterRead n s) := by
  cases g <;> simp_all [Group.same]

end

/-! ## Bodies -/

/-- The body leaves the group as it was, however it ends. -/
def Keeps {α : Type} (g : Group) (body : State → Run α) : Prop := ∀ s, g.same s (body s).1

section
variable {α β : Type} {g : Group}

theorem keeps_ret (v : α) : Keeps g (ret v) := fun s => same_refl g s

theorem keeps_raise (e : ErrorKind) : Keeps (α := α) g (raise e) := fun s => same_refl g s

theorem keeps_orRaise (o : Option α) (e : ErrorKind) : Keeps g (orRaise o e) := fun s => by simp

/-- Statement after statement keeps what each keeps. -/
theorem keeps_andThen {m : State → Run α} {f : α → State → Run β} (hm : Keeps g m) (hf : ∀ v, Keeps g (f v)) :
    Keeps g (fun s => (m s).andThen f) := by
  intro s
  obtain ⟨v, -, e⟩ | ⟨e, -, e'⟩ := andThen_cases (m s) f
  · simp only [e]; exact same_trans (hm s) (hf v _)
  · simp only [e']; exact hm s

/-- A transaction keeps what its body keeps. -/
theorem transact_keeps {f : α → Reply} {body : State → Run α} {s t : State} (hb : Keeps g body)
    (h : transact f body s = .next t) : g.same s t := by
  rw [transact_eq] at h
  cases h
  exact same_trans (same_trans (same_busy s true) (hb _)) (same_finish _ _)

end

section
variable {g : Group}

theorem keeps_readPayload (l : Word16) (hg : g ∉ [Group.payload, .sequencer, .rx]) : Keeps g (readPayload l) := by
  simp only [List.mem_cons, List.not_mem_nil, or_false, not_or] at hg
  intro s
  rw [readPayload_eq]
  split
  · exact same_afterRead s hg.2.2 hg.2.1
  · exact same_trans (same_afterRead s hg.2.2 hg.2.1) (same_setPbuf _ hg.1)

theorem keeps_readHeader (hg : g ∉ [Group.header, .sequencer, .rx]) : Keeps g readHeader := by
  simp only [List.mem_cons, List.not_mem_nil, or_false, not_or] at hg
  intro s
  rw [readHeader_eq]
  split
  · exact same_trans (same_afterRead s hg.2.2 hg.2.1) (same_setHdr _ hg.1)
  · split <;> exact same_afterRead s hg.2.2 hg.2.1

theorem keeps_takeHwResponse (p1 p2 d c : Byte) (hg : g ≠ .notes) : Keeps g (takeHwResponse p1 p2 d c) :=
  fun s => same_notify s hg

theorem keeps_takeHwRichResponse (l : Word16) (d c : Byte) (hg : g ∉ [Group.payload, .sequencer, .rx, .notes]) :
    Keeps g (takeHwRichResponse l d c) := by
  simp only [List.mem_cons, List.not_mem_nil, or_false, not_or] at hg
  exact keeps_andThen (keeps_readPayload l (by simp [hg])) fun v s => same_notify s hg.2.2.2

theorem keeps_takeStatusUpdate (i l : Word16) (d c : Byte) (hg : g ∉ [Group.payload, .sequencer, .rx, .statuses]) :
    Keeps g (takeStatusUpdate i l d c) := by
  simp only [List.mem_cons, List.not_mem_nil, or_false, not_or] at hg
  refine keeps_andThen (keeps_readPayload l (by simp [hg])) fun v s => ?_
  split
  · exact same_emitStatus s hg.2.2.2
  · exact same_refl g s

theorem keeps_takeAnswerLong (i l : Word16) (d c : Byte) (hg : g ∉ [Group.payload, .sequencer, .rx]) :
    Keeps g (takeAnswerLong i l d c) :=
  keeps_andThen (keeps_readPayload l hg) fun _ => keeps_ret _

theorem keeps_takeFrame (f : Frame) (hg : g ∉ [Group.payload, .sequencer, .rx, .notes, .statuses]) :
    Keeps g (takeFrame f) := by
  simp only [List.mem_cons, List.not_mem_nil, or_false, not_or] at hg
  intro s
  cases f with
  | hwResponse p1 p2 d c => exact keeps_takeHwResponse p1 p2 d c hg.2.2.2.1 s
  | hwRichResponse l d c => exact keeps_takeHwRichResponse l d c (by simp [hg]) s
  | statusUpdate i l d c => exact keeps_takeStatusUpdate i l d c (by simp [hg]) s
  | answerLong i l d c => exact keeps_takeAnswerLong i l d c (by simp [hg]) s
  | answerShort i p1 p2 d c => exact same_refl g s

theorem keeps_clsStep (hg : g ∉ clsStepWrites) : Keeps g clsStep := by
  simp only [clsStepWrites, List.mem_cons, List.not_mem_nil, or_false, not_or] at hg
  intro s
  rw [clsStep_eq]
  obtain ⟨h, -, e⟩ | ⟨e, -, e'⟩ := andThen_cases (readHeader s) fun h s => takeFrame (classify s.frameContext h) s
  · rw [e]
    exact same_trans (keeps_readHeader (by simp [hg]) s) (keeps_takeFrame _ (by simp [hg]) _)
  · rw [e']; exact keeps_readHeader (by simp [hg]) s

theorem keeps_clsRun (hg : g ∉ clsRunWrites) : Keeps g clsRun := by
  simp only [clsRunWrites, List.mem_cons, not_or] at hg
  intro s
  refine drain_induct (P := fun t => g.same s t) (fun t h => same_trans h (keeps_clsStep hg.2 t))
    (fun n t h => same_trans h (same_setDrainCnt t hg.1)) _ _ (same_setDrainCnt s hg.1)

theorem keeps_pushAndSend (id : Word16) (p1 p2 d : Byte) (hg : g ∉ [Group.history, .tx]) (s : State) :
    g.same s (pushAndSend id p1 p2 d s) := by
  simp only [List.mem_cons, List.not_mem_nil, or_false, not_or] at hg
  exact same_trans (same_pushHistory s hg.1) (same_txWrite _ hg.2)

theorem keeps_runQuery (id : Word16) (p1 p2 : Byte) (hg : g ∉ .history :: .tx :: clsRunWrites) :
    Keeps g (runQuery id p1 p2) := by
  have hrx : g ≠ .rx := by rintro rfl; simp [clsRunWrites, clsStepWrites] at hg
  simp only [List.mem_cons, not_or] at hg
  refine keeps_andThen (fun s => by simp [needDest]) fun d s => ?_
  exact same_trans (same_trans (same_rxFlush s hrx) (keeps_pushAndSend id p1 p2 d (by simp [hg]) _))
    (keeps_clsRun hg.2.2 _)

theorem keeps_runWrite (id : Word16) (p1 p2 : Byte) (hg : g ∉ [Group.history, .tx]) : Keeps g (runWrite id p1 p2) :=
  keeps_andThen (fun s => by simp [needDest]) fun d s => keeps_pushAndSend id p1 p2 d hg s

theorem keeps_decodeIdentity (p : Bytes) : Keeps g (decodeIdentity p) := by
  intro s; unfold decodeIdentity; split <;> simp

theorem keeps_decodeAndLatch (p : Bytes) (hg : g ≠ .cache) : Keeps g (decodeAndLatch p) :=
  keeps_andThen (keeps_decodeIdentity p) fun _ s => same_latchIdentity s hg

theorem keeps_longBytes (m : Message) : Keeps g (longBytes m) := by
  intro s; unfold longBytes; split <;> simp

theorem keeps_shortParam2 (m : Message) : Keeps g (shortParam2 m) := by
  intro s; unfold shortParam2; split <;> simp

end

end Sys2Proof.Machine
end

