-- ==== Sys2Proof/Laws/History.lean ====
section
/-! SUPPORT. The ring and the sequence it stands for (R30, R31, R171, R172). -/

namespace Sys2Proof.Machine

@[simp] theorem hist_length (s : State) : s.hist.length = s.cnt.val := by simp [State.hist]

/-- `HIST[k]` by index (R31). -/
theorem hist_getElem? (s : State) (k : Nat) : s.hist[k]? = s.histEntry k := by
  unfold State.hist State.histEntry
  split
  · next h => simp [h]
  · next h => simp; omega

/-- HIST_FULL and HIST_EMPTY read the length (R35). -/
theorem histFull_iff (s : State) : s.histFull = true ↔ s.hist.length = 20 := by simp [State.histFull]

theorem histEmpty_iff (s : State) : s.histEmpty = true ↔ s.hist = [] := by
  rw [← List.length_eq_zero_iff]; simp [State.histEmpty]

/-- The newest entry is the last of the sequence (R172). -/
theorem newest_eq (s : State) : s.newest = s.hist.getLast? := by
  rw [List.getLast?_eq_getElem?, hist_getElem?, hist_length]
  have h := s.cnt.isLt
  unfold State.newest State.histEntry
  by_cases e : s.cnt.val = 0
  · simp [e]
  · rw [if_neg e, if_pos (by omega)]
    congr 2; omega

/-- The pushed slot is WP's; the others keep their value (R171). -/
theorem slot_pushHistory (id : Word16) (s : State) (i : Nat) :
    (pushHistory id s).slot i = if i % 20 = s.wp.val then id else s.slot i := by
  unfold State.slot pushHistory
  simp only [Vector.getElem_set]
  by_cases h : s.wp.val = i % 20
  · rw [if_pos h, if_pos h.symm]
  · rw [if_neg h, if_neg (Ne.symm h)]

theorem pushHistory_cnt (id : Word16) (s : State) :
    (pushHistory id s).cnt.val = if s.cnt.val < 20 then s.cnt.val + 1 else s.cnt.val := by
  unfold pushHistory; dsimp only; split <;> rfl

theorem pushHistory_wp (id : Word16) (s : State) : (pushHistory id s).wp.val = (s.wp.val + 1) % 20 := rfl

/-- A push appends, and drops the oldest entry when there are 20 (R171). -/
theorem pushHistory_hist (id : Word16) (s : State) :
    (pushHistory id s).hist = (if s.hist.length = 20 then s.hist.drop 1 else s.hist) ++ [id] := by
  have hc := s.cnt.isLt
  have hw := s.wp.isLt
  apply List.ext_getElem?
  intro k
  rw [hist_getElem?]
  unfold State.histEntry
  rw [slot_pushHistory, pushHistory_cnt, pushHistory_wp, hist_length]
  by_cases hf : s.cnt.val = 20
  · have e : (if s.cnt.val < 20 then s.cnt.val + 1 else s.cnt.val) = 20 := by rw [if_neg (by omega)]; exact hf
    rw [if_pos hf, e]
    by_cases hk : k < 19
    · have h1 : k < 20 := by omega
      have h2 : ((s.wp.val + 1) % 20 + 20 - 20 + k) % 20 ≠ s.wp.val := by omega
      have h3 : 1 + k < s.cnt.val := by omega
      rw [if_pos h1, if_neg h2, List.getElem?_append_left (by simp; omega), List.getElem?_drop, hist_getElem?]
      unfold State.histEntry
      rw [if_pos h3]
      congr 1
      unfold State.slot
      congr 1
      omega
    · by_cases hk' : k = 19
      · subst hk'
        have h2 : ((s.wp.val + 1) % 20 + 20 - 20 + 19) % 20 = s.wp.val := by omega
        rw [if_pos (by decide), if_pos h2, List.getElem?_append_right (by simp; omega)]
        simp [hf]
      · have h1 : ¬ k < 20 := by omega
        rw [if_neg h1, List.getElem?_eq_none (by simp; omega)]
  · have e : (if s.cnt.val < 20 then s.cnt.val + 1 else s.cnt.val) = s.cnt.val + 1 := if_pos (by omega)
    rw [if_neg hf, e]
    by_cases hk : k < s.cnt.val
    · have h1 : k < s.cnt.val + 1 := by omega
      have h2 : ((s.wp.val + 1) % 20 + 20 - (s.cnt.val + 1) + k) % 20 ≠ s.wp.val := by omega
      rw [if_pos h1, if_neg h2, List.getElem?_append_left (by simpa using hk), hist_getElem?]
      unfold State.histEntry
      rw [if_pos hk]
      congr 1
      unfold State.slot
      congr 1
      omega
    · by_cases hk' : k = s.cnt.val
      · have h1 : k < s.cnt.val + 1 := by omega
        have h2 : ((s.wp.val + 1) % 20 + 20 - (s.cnt.val + 1) + k) % 20 = s.wp.val := by omega
        rw [if_pos h1, if_pos h2, List.getElem?_append_right (by simp; omega)]
        simp [hk']
      · have h1 : ¬ k < s.cnt.val + 1 := by omega
        rw [if_neg h1, List.getElem?_eq_none (by simp; omega)]

/-- After a push the newest entry is the pushed id (R172). -/
theorem pushHistory_newest (id : Word16) (s : State) : (pushHistory id s).newest = some id := by
  rw [newest_eq, pushHistory_hist]; simp

end Sys2Proof.Machine
end

