-- ==== Sys2Proof/Laws/Identity.lean ====
section
/-! SUPPORT. The decimal prefix (R192), trimming (R187), the model lookup (R193) and the Model Table at reset (R191). -/

namespace Sys2Proof.Machine

/-- The loop divides by a power of ten, and stops at two digits once it has enough turns (R192). -/
theorem reducePrefix_spec : ∀ fuel n : Nat, 10 ≤ n → n < 10 ^ (fuel + 2) →
    ∃ k, reducePrefix fuel n = n / 10 ^ k ∧ 10 ≤ reducePrefix fuel n ∧ reducePrefix fuel n ≤ 99
  | 0, n, h, hn => ⟨0, by simp [reducePrefix], h, by simp only [reducePrefix]; omega⟩
  | fuel + 1, n, h, hn => by
    unfold reducePrefix
    split
    · next hb =>
      have hlt : n / 10 < 10 ^ (fuel + 2) := by
        rw [Nat.div_lt_iff_lt_mul (by decide)]
        calc n < 10 ^ (fuel + 1 + 2) := hn
          _ = 10 ^ (fuel + 2) * 10 := by rw [← pow_succ]
      obtain ⟨k, e, lo, hi⟩ := reducePrefix_spec fuel (n / 10) (by omega) hlt
      exact ⟨k + 1, by rw [e, Nat.div_div_eq_div_mul, pow_succ, Nat.mul_comm], lo, hi⟩
    · exact ⟨0, by simp, h, by omega⟩

/-- Below 10 there is no prefix; from 10 on it is the number divided by a power of ten, in 10..99 (R192). -/
theorem prefix2_cases (s : Word32) :
    (s.toNat < 10 ∧ prefix2 s = none) ∨
      ∃ k p, 10 ≤ s.toNat ∧ prefix2 s = some p ∧ p = s.toNat / 10 ^ k ∧ 10 ≤ p ∧ p ≤ 99 := by
  unfold prefix2
  by_cases h : s.toNat < 10
  · exact .inl ⟨h, if_pos h⟩
  · obtain ⟨k, e, lo, hi⟩ := reducePrefix_spec 8 s.toNat (by omega)
      (Nat.lt_trans s.isLt (by decide))
    exact .inr ⟨k, _, by omega, if_neg h, e, lo, hi⟩

theorem prefix2_range {s : Word32} {p : Nat} (h : prefix2 s = some p) : 10 ≤ p ∧ p ≤ 99 := by
  obtain ⟨-, e⟩ | ⟨k, q, -, e, -, lo, hi⟩ := prefix2_cases s
  · rw [e] at h; cases h
  · rw [e] at h; cases h; exact ⟨lo, hi⟩

/-- What Trim keeps and what it cuts (R187): the cut end is trimmable throughout, the kept end is not. -/
theorem trim_spec (pad : List Byte) (t : Bytes) :
    ∃ cut, t = trim pad t ++ cut ∧ (∀ b ∈ cut, trimmable pad b = true) ∧
      ∀ b, (trim pad t).getLast? = some b → trimmable pad b = false := by
  refine ⟨(t.reverse.takeWhile (trimmable pad)).reverse, ?_, ?_, ?_⟩
  · unfold trim
    rw [← List.reverse_append, List.takeWhile_append_dropWhile, List.reverse_reverse]
  · intro b hb
    exact List.mem_takeWhile_imp (List.mem_reverse.mp hb)
  · intro b hb
    unfold trim at hb
    rw [List.getLast?_reverse] at hb
    have := List.head?_dropWhile_not (trimmable pad) t.reverse
    rw [hb] at this
    simpa using this

/-- The cache write (R196): the key is the prefix exactly where the model is known. -/
theorem latchIdentity_ident (r : HardwareIdentity) (s : State) :
    (latchIdentity r s).ident = some ⟨r.serialNumber,
      match r.model with
      | none => none
      | some _ => (prefix2 r.serialNumber).map (BitVec.ofNat 7), r.channelCount⟩ := rfl

/-- A known model has a prefix, and the key the cache holds for it is that prefix (R33, R196). -/
theorem lookupModel_some {table : List (Nat × ModelEntry)} {serial : Word32} {m : ModelEntry}
    (h : lookupModel table serial = some m) :
    ∃ p, prefix2 serial = some p ∧ table.lookup p = some m ∧ (BitVec.ofNat 7 p).toNat = p := by
  unfold lookupModel at h
  obtain ⟨p, hp, hl⟩ := Option.bind_eq_some_iff.mp h
  have := prefix2_range hp
  exact ⟨p, hp, hl, by rw [BitVec.toNat_ofNat]; omega⟩

/-- Looking a key up in the rows of a table finds its row, for the keys that are listed. -/
theorem lookup_tableRows (row : Nat → Option ModelEntry) (k : Nat) :
    ∀ keys : List Nat, (tableRows row keys).lookup k = if k ∈ keys then row k else none
  | [] => rfl
  | j :: keys => by
    have ih := lookup_tableRows row k keys
    unfold tableRows at ih ⊢
    by_cases h : k = j
    · subst h
      cases hr : row k with
      | none => simp [hr, ih]
      | some m => simp [hr]
    · have hb : (k == j) = false := by simpa using h
      cases hr : row j <;> simp [hr, List.lookup, hb, ih, h]

/-- The keys of a table's rows are the listed keys that have a row, in their order. -/
theorem keys_tableRows (row : Nat → Option ModelEntry) :
    ∀ keys : List Nat, (tableRows row keys).map Prod.fst = keys.filter fun k => (row k).isSome
  | [] => rfl
  | j :: keys => by
    have ih := keys_tableRows row keys
    unfold tableRows at ih ⊢
    cases hr : row j <;> simp [hr, ih]

/-- The parameters at reset meet R9, whatever the free values are. -/
theorem decided_wf : Config.decided.wf = true := by
  unfold Config.wf Config.decided
  have hk := keys_tableRows Config.modelRow (List.range' 10 90)
  have hn : ((List.range' 10 90).filter fun k => (Config.modelRow k).isSome).Nodup :=
    List.Nodup.filter _ List.nodup_range'
  have hr : ∀ r ∈ tableRows Config.modelRow (List.range' 10 90), 10 ≤ r.1 ∧ r.1 ≤ 99 := by
    intro r h
    have := hk ▸ List.mem_map_of_mem (f := Prod.fst) h
    have := List.mem_range'_1.mp (List.mem_filter.mp this).1
    omega
  have h40 : (tableRows Config.modelRow (List.range' 10 90)).lookup 40 = some knownModel := by
    rw [lookup_tableRows, if_pos (by decide)]; rfl
  simp only [h40, hk, hn, List.all_eq_true, Bool.and_eq_true, decide_eq_true_eq]
  exact ⟨⟨⟨by omega, hr⟩, trivial⟩, trivial⟩

end Sys2Proof.Machine
end

