-- ==== Sys2Proof/Laws/PerInstr.lean ====
section
/-! SUPPORT. The per-instruction family RoundTrip: an instruction's encoding decodes back to it, every operand kept. One lemma
per constructor. -/

namespace Sys2Proof.Laws.RoundTrip

/-- A well-formed request reads back from the host port with what follows it left over; a received frame reads back from RX
in every context in which it is of its class. -/
def Statement (i : Instr) : Prop :=
  i.wf = true →
    (i.fromRx = false → ∀ rest, decodeRequest (encode i ++ rest) = .ok (i, rest)) ∧
    (i.fromRx = true → ∃ f : Frame, i = f.toInstr ∧
      ∀ c rest, classify c f.header = f → decodeFrame c (encode i ++ rest) = some i)

/-- The request half, for an instruction of the host port. -/
theorem of_request {i : Instr} (hx : i.fromRx = false)
    (h : i.wf = true → ∀ rest, decodeRequest (encode i ++ rest) = .ok (i, rest)) : Statement i :=
  fun hw => ⟨fun _ => h hw, fun k => absurd (hx.symm.trans k) (by decide)⟩

/-- The RX half, for a frame class. -/
theorem of_frame (f : Frame) (hx : f.toInstr.fromRx = true) : Statement f.toInstr :=
  fun _ => ⟨fun k => absurd (hx.symm.trans k) (by decide), fun _ => ⟨f, rfl, fun c rest h => by simp [h]⟩⟩

theorem reserved : Statement (.reserved) :=
  of_request rfl fun _ rest => by simp [encode, decodeRequest, decodeOperands]

theorem encShort (id : Word16) (p1 : Byte) (p2 : Byte) (dest : Byte) (source : Byte) : Statement (.encShort id p1 p2 dest source) :=
  of_request rfl fun _ rest => by simp [encode, decodeRequest, decodeOperands, List.append_assoc]

theorem decLong (b : Bytes) : Statement (.decLong b) :=
  of_request rfl fun h rest => by simp [encode, decodeRequest, decodeOperands, readBytes_encodeBytes h]

theorem decShort (b : Bytes) : Statement (.decShort b) :=
  of_request rfl fun h rest => by simp [encode, decodeRequest, decodeOperands, readBytes_encodeBytes h]

theorem clsStep : Statement (.clsStep) :=
  of_request rfl fun _ rest => by simp [encode, decodeRequest, decodeOperands]

theorem clsRun : Statement (.clsRun) :=
  of_request rfl fun _ rest => by simp [encode, decodeRequest, decodeOperands]

theorem histPush (id : Word16) : Statement (.histPush id) :=
  of_request rfl fun _ rest => by simp [encode, decodeRequest, decodeOperands]

theorem histLast : Statement (.histLast) :=
  of_request rfl fun _ rest => by simp [encode, decodeRequest, decodeOperands]

theorem hwiDecode (payload : Bytes) : Statement (.hwiDecode payload) :=
  of_request rfl fun h rest => by simp [encode, decodeRequest, decodeOperands, readBytes_encodeBytes h]

theorem modelLookup (serial : Word32) : Statement (.modelLookup serial) :=
  of_request rfl fun _ rest => by simp [encode, decodeRequest, decodeOperands]

theorem hwiLatch (payload : Bytes) : Statement (.hwiLatch payload) :=
  of_request rfl fun h rest => by simp [encode, decodeRequest, decodeOperands, readBytes_encodeBytes h]

theorem init (source : Option Byte) (destination : Option Byte) : Statement (.init source destination) :=
  of_request rfl fun _ rest => by simp [encode, decodeRequest, decodeOperands, List.append_assoc]

theorem setSuid (v : Option Word16) : Statement (.setSuid v) :=
  of_request rfl fun _ rest => by simp [encode, decodeRequest, decodeOperands]

theorem setHandler (present : Bool) : Statement (.setHandler present) :=
  of_request rfl fun _ rest => by simp [encode, decodeRequest, decodeOperands]

theorem setVerbose (on : Bool) : Statement (.setVerbose on) :=
  of_request rfl fun _ rest => by simp [encode, decodeRequest, decodeOperands]

theorem crRd (n : Nat) : Statement (.crRd n) :=
  of_request rfl fun h rest => by simp [encode, decodeRequest, decodeOperands, readNumber_encodeNumber h]

theorem hwResponse (p1 : Byte) (p2 : Byte) (dest : Byte) (source : Byte) : Statement (.hwResponse p1 p2 dest source) := of_frame (.hwResponse p1 p2 dest source) rfl

theorem hwRichResponse (length : Word16) (dest : Byte) (source : Byte) : Statement (.hwRichResponse length dest source) := of_frame (.hwRichResponse length dest source) rfl

theorem statusUpdate (id : Word16) (length : Word16) (dest : Byte) (source : Byte) : Statement (.statusUpdate id length dest source) := of_frame (.statusUpdate id length dest source) rfl

theorem answerLong (id : Word16) (length : Word16) (dest : Byte) (source : Byte) : Statement (.answerLong id length dest source) := of_frame (.answerLong id length dest source) rfl

theorem answerShort (id : Word16) (p1 : Byte) (p2 : Byte) (dest : Byte) (source : Byte) : Statement (.answerShort id p1 p2 dest source) := of_frame (.answerShort id p1 p2 dest source) rfl

theorem query (id : Word16) (p1 : Byte) (p2 : Byte) : Statement (.query id p1 p2) :=
  of_request rfl fun _ rest => by simp [encode, decodeRequest, decodeOperands, List.append_assoc]

theorem write (id : Word16) (p1 : Byte) (p2 : Byte) : Statement (.write id p1 p2) :=
  of_request rfl fun _ rest => by simp [encode, decodeRequest, decodeOperands, List.append_assoc]

theorem getHwInfo : Statement (.getHwInfo) :=
  of_request rfl fun _ rest => by simp [encode, decodeRequest, decodeOperands]

theorem setChannelState (channel : Nat) (enabled : Bool) : Statement (.setChannelState channel enabled) :=
  of_request rfl fun h rest => by
    simp [encode, decodeRequest, decodeOperands, List.append_assoc, readNumber_encodeNumber h]

theorem getChannelState (channel : Nat) : Statement (.getChannelState channel) :=
  of_request rfl fun h rest => by simp [encode, decodeRequest, decodeOperands, readNumber_encodeNumber h]

end Sys2Proof.Laws.RoundTrip
end

