-- ==== Sys2Proof/Machine/Written.lean ====
section
/-! DEFINITION. The written syntax of an operation (R106): mnemonic, then the operands in the order of R104 separated by
commas, integers in hexadecimal, byte sequences in square brackets, `-` for an absent optional operand. -/

namespace Sys2Proof.Machine

/-- The hexadecimal digit of a number below 16. -/
def hexDigit (n : Nat) : Char := (['0', '1', '2', '3', '4', '5', '6', '7', '8', '9', 'A', 'B', 'C', 'D', 'E', 'F']).getD n '0'

/-- The last `k` hexadecimal digits of `n`, most significant first. -/
def hexDigits : Nat → Nat → List Char
  | 0, _ => []
  | k + 1, n => hexDigits k (n / 16) ++ [hexDigit (n % 16)]

/-- The decimal digits of `n`, at most `fuel` of them. -/
def decDigits : Nat → Nat → List Char
  | 0, _ => []
  | fuel + 1, n => (if n < 10 then [] else decDigits fuel (n / 10)) ++ [hexDigit (n % 10)]

/-- An integer of `2k` digits with the `0x` prefix. -/
def writeHex {w : Nat} (k : Nat) (v : BitVec w) : List Char := ['0', 'x'] ++ hexDigits k v.toNat

/-- Bytes as two-digit numbers separated by spaces. -/
def writeByteList : Bytes → List Char
  | [] => []
  | [b] => hexDigits 2 b.toNat
  | b :: c :: rest => hexDigits 2 b.toNat ++ [' '] ++ writeByteList (c :: rest)

/-- A byte sequence in square brackets. -/
def writeBytes (b : Bytes) : List Char := ['['] ++ writeByteList b ++ [']']

/-- An optional integer. -/
def writeOption {w : Nat} (k : Nat) : Option (BitVec w) → List Char
  | none => ['-']
  | some v => writeHex k v

/-- A register or channel number, in decimal as the spec's examples write them (log entry 22). -/
def writeNumber (n : Nat) : List Char := decDigits (n + 1) n

/-- A bit. -/
def writeBit (b : Bool) : List Char := if b then ['1'] else ['0']

/-- Operands separated by commas. -/
def writeOperands : List (List Char) → List Char
  | [] => []
  | [a] => a
  | a :: b :: rest => a ++ [',', ' '] ++ writeOperands (b :: rest)

/-- A mnemonic with its operands. -/
def writeLine (mnemonic : String) (operands : List (List Char)) : Option String :=
  match operands with
  | [] => some mnemonic
  | a :: rest => some (mnemonic ++ " " ++ String.ofList (writeOperands (a :: rest)))

/-- The written form of an operation or host sequence (R106); none for the reserved code and for a received frame, which
are no operations (R104). -/
def written : Instr → Option String
  | .reserved => none
  | .encShort id p1 p2 d s =>
    writeLine "ENC_SHORT" [writeHex 4 id, writeHex 2 p1, writeHex 2 p2, writeHex 2 d, writeHex 2 s]
  | .decLong b => writeLine "DEC_LONG" [writeBytes b]
  | .decShort b => writeLine "DEC_SHORT" [writeBytes b]
  | .clsStep => writeLine "CLS_STEP" []
  | .clsRun => writeLine "CLS_RUN" []
  | .histPush id => writeLine "HIST_PUSH" [writeHex 4 id]
  | .histLast => writeLine "HIST_LAST" []
  | .hwiDecode p => writeLine "HWI_DECODE" [writeBytes p]
  | .modelLookup serial => writeLine "MODEL_LOOKUP" [writeHex 8 serial]
  | .hwiLatch p => writeLine "HWI_LATCH" [writeBytes p]
  | .init source destination => writeLine "INIT" [writeOption 2 source, writeOption 2 destination]
  | .setSuid v => writeLine "SET_SUID" [writeOption 4 v]
  | .setHandler present => writeLine "SET_HANDLER" [writeBit present]
  | .setVerbose on => writeLine "SET_VERBOSE" [writeBit on]
  | .crRd n => writeLine "CR_RD" [writeNumber n]
  | .hwResponse _ _ _ _ => none
  | .hwRichResponse _ _ _ => none
  | .statusUpdate _ _ _ _ => none
  | .answerLong _ _ _ _ => none
  | .answerShort _ _ _ _ _ => none
  | .query id p1 p2 => writeLine "QUERY" [writeHex 4 id, writeHex 2 p1, writeHex 2 p2]
  | .write id p1 p2 => writeLine "WRITE" [writeHex 4 id, writeHex 2 p1, writeHex 2 p2]
  | .getHwInfo => writeLine "GET_HW_INFO" []
  | .setChannelState channel enabled =>
    writeLine "SET_CHANNEL_STATE" [writeNumber channel, if enabled then ['t', 'r', 'u', 'e'] else ['f', 'a', 'l', 's', 'e']]
  | .getChannelState channel => writeLine "GET_CHANNEL_STATE" [writeNumber channel]

end Sys2Proof.Machine
end

