-- ==== Sys2Proof/Tests/Slice0.lean ====
section
/-! SUPPORT. Tests: ill-formed instructions, words and byte strings written out from the spec's encodings, one step on a small
state from the spec's own vectors (95_test_vectors.md; V and S numbers in the names and comments), and for every obligation
with hypotheses a state and operands that meet them. The spec's vectors are derived from its rules, not measured. -/

namespace Sys2Proof.Machine.Tests

/-! ## Helpers -/

/-- The state an outcome answers. -/
def after? (o : Host.Outcome State Fault Refusal) : Option State :=
  match o with
  | .next t => some t
  | .fault _ => none
  | .refused _ => none

/-- A field of the state an outcome answers. -/
def at? {α : Type} (f : State → α) (o : Host.Outcome State Fault Refusal) : Option α := (after? o).map f

/-- The parameters of the spec's vectors (95_test_vectors.md): DRAIN_MAX = 8 and the one-row Model Table where R9 leaves them
OPEN. -/
def vectorParams : Config := { Config.decided with drainMax := 8, modelTable := [(40, knownModel)] }

/-- The block after `INIT -, 0x50` (V68). -/
def up : State := { State.reset with cfg := vectorParams, dest := some 0x50 }

/-- The block with these bytes in RXBUF. -/
def withRx (b : Bytes) : State := { up with rxbuf := b }

/-- The block to which these bytes will be sent. -/
def arriving (b : Bytes) : State := { up with incoming := [b] }

/-- The block with one id pushed. -/
def pushed (id : Word16) (s : State) : State := pushHistory id s

/-- The block of V19: SUID = 0x0481, HANDLER as given, HIST = [0x0481]. -/
def watching (handler : Bool) (b : Bytes) : State :=
  pushed 0x0481 { withRx b with suid := some 0x0481, handler := handler }

/-- `n` null bytes. -/
def nulls (n : Nat) : Bytes := List.replicate n 0

/-- The payload of V40. -/
def payload40 : Bytes :=
  [0xFB, 0x1A, 0x06, 0x00, 0x42, 0x53, 0x43, 0x31, 0x30, 0x31, 0x00, 0x00, 0x10, 0x00, 0x04, 0x03, 0x02, 0x00] ++
  [0x73, 0x79, 0x6E, 0x74, 0x68, 0x65, 0x74, 0x69, 0x63, 0x20, 0x6E, 0x6F, 0x74, 0x65, 0x73] ++ nulls 33 ++ nulls 12 ++
  [0x03, 0x00, 0x00, 0x00, 0x01, 0x00]

/-- The payload of V41. -/
def payload41 : Bytes :=
  [0x4E, 0x61, 0xBC, 0x00, 0x41, 0x42, 0x43, 0x20, 0x20, 0x20, 0x20, 0x20, 0xFF, 0xFF, 0xFF, 0xFF, 0xFF, 0xFF] ++
  [0x78, 0x20, 0x79] ++ List.replicate 45 0x20 ++ List.replicate 16 0xFF ++ [0x02, 0x00]

/-! ## Ill-formed instructions are refused by the checks -/

/-- The check on a byte sequence sees its length alone. -/
theorem bytesFit_replicate (n : Nat) : bytesFit (List.replicate n 0) = decide (n < 4294967296) := by
  unfold bytesFit; rw [List.length_replicate]

theorem test_wf_bytes_too_long : bytesFit (List.replicate 4294967296 0) = false ∧
    bytesFit (List.replicate 4294967295 0) = true := by
  rw [bytesFit_replicate, bytesFit_replicate]; decide

theorem test_wf_operand_too_long : (Instr.decLong (List.replicate 4294967296 0)).wf = false ∧
    (Instr.decShort (List.replicate 4294967296 0)).wf = false ∧
    (Instr.hwiDecode (List.replicate 4294967296 0)).wf = false ∧
    (Instr.hwiLatch (List.replicate 4294967296 0)).wf = false := by
  unfold Instr.wf
  dsimp only
  rw [bytesFit_replicate]
  decide

theorem test_wf_number_too_large : (Instr.crRd 4294967296).wf = false ∧ (Instr.crRd 4294967295).wf = true ∧
    (Instr.setChannelState 4294967296 true).wf = false ∧ (Instr.getChannelState 4294967296).wf = false := by decide

theorem test_wf_notification_id : (Instr.statusUpdate 0x0080 0 0 0).wf = false ∧
    (Instr.answerLong 0x0081 0 0 0).wf = false ∧ (Instr.answerShort 0x0080 0 0 0 0).wf = false ∧
    (Instr.answerShort 0x0082 0 0 0 0).wf = true := by decide

/-! ## Words and byte strings written out from the spec -/

/-- OPSEL codes of R104, operand words of zeros. -/
theorem test_table_words_op : decodeTableWord 8 0x0 = some .reserved ∧ decodeTableWord 8 0x1 = some (.encShort 0 0 0 0 0) ∧
    decodeTableWord 8 0x2 = some (.decLong []) ∧ decodeTableWord 8 0x3 = some (.decShort []) ∧
    decodeTableWord 8 0x4 = some .clsStep ∧ decodeTableWord 8 0x5 = some .clsRun ∧
    decodeTableWord 8 0x6 = some (.histPush 0) ∧ decodeTableWord 8 0x7 = some .histLast ∧
    decodeTableWord 8 0x8 = some (.hwiDecode []) ∧ decodeTableWord 8 0x9 = some (.modelLookup 0) ∧
    decodeTableWord 8 0xA = some (.hwiLatch []) ∧ decodeTableWord 8 0xB = some (.init none none) ∧
    decodeTableWord 8 0xC = some (.setSuid none) ∧ decodeTableWord 8 0xD = some (.setHandler false) ∧
    decodeTableWord 8 0xE = some (.setVerbose false) ∧ decodeTableWord 8 0xF = some (.crRd 0) := by decide

/-- The frame patterns of the opcode table, H = source dest byte3 byte2 byte1 byte0. -/
theorem test_table_words_frame :
    decodeTableWord 48 0x5001CDAB0080 = some (.hwResponse 0xAB 0xCD 0x01 0x50) ∧
    decodeTableWord 48 0x508100050081 = some (.hwRichResponse 0x0005 0x81 0x50) ∧
    decodeTableWord 48 0x018100040A0B = some (.answerLong 0x0A0B 0x0004 0x81 0x01) ∧
    decodeTableWord 48 0x500102010A0B = some (.answerShort 0x0A0B 0x01 0x02 0x01 0x50) ∧
    decodeTableWord 48 0x015000000005 = some .getHwInfo ∧
    decodeTableWord 48 0x015002080210 = some (.setChannelState 4 false) ∧
    decodeTableWord 48 0x015000040211 = some (.getChannelState 3) ∧ decodeTableWord 16 0 = none := by decide

/-- A status update is a status update only by the registers (R95): V19, V21, V22, V23. -/
theorem test_decode_statusUpdate :
    decodeFrame ⟨some 0x0481, some 0x0481, .hdr, 0x01⟩ [0x81, 0x04, 0x02, 0x00, 0x01, 0x50, 0xAA, 0xBB] =
      some (.statusUpdate 0x0481 0x0002 0x01 0x50) ∧
    decodeFrame ⟨some 0x0481, some 0x0211, .hdr, 0x01⟩ [0x81, 0x04, 0x02, 0x00, 0x01, 0x50, 0xAA, 0xBB] =
      some (.answerShort 0x0481 0x02 0x00 0x01 0x50) ∧
    decodeFrame ⟨some 0x0481, none, .hdr, 0x01⟩ [0x81, 0x04, 0x02, 0x00, 0x01, 0x50, 0xAA, 0xBB] =
      some (.answerShort 0x0481 0x02 0x00 0x01 0x50) ∧
    decodeFrame ⟨none, some 0x0481, .hdr, 0x01⟩ [0x81, 0x04, 0x02, 0x00, 0x01, 0x50, 0xAA, 0xBB] =
      some (.answerShort 0x0481 0x02 0x00 0x01 0x50) := by decide

/-- The long-form test, both values of LONGTEST_SRC: V33, V34, V36, V37. -/
theorem test_decode_longtest :
    decodeFrame ⟨none, none, .hdr, 0x01⟩ [0x0B, 0x0A, 0x02, 0x00, 0x81, 0x50] =
      some (.answerShort 0x0A0B 0x02 0x00 0x81 0x50) ∧
    decodeFrame ⟨none, none, .cfg, 0x01⟩ [0x0B, 0x0A, 0x02, 0x00, 0x81, 0x50] = some (.answerLong 0x0A0B 2 0x81 0x50) ∧
    decodeFrame ⟨none, none, .hdr, 0x01⟩ [0x0B, 0x0A, 0x02, 0x00, 0xD0, 0x50] = some (.answerLong 0x0A0B 2 0xD0 0x50) ∧
    decodeFrame ⟨none, none, .cfg, 0x01⟩ [0x0B, 0x0A, 0x02, 0x00, 0xD0, 0x50] =
      some (.answerShort 0x0A0B 0x02 0x00 0xD0 0x50) ∧
    decodeFrame ⟨none, none, .hdr, 0x01⟩ [0x0B, 0x0A, 0x02, 0x00, 0x81, 0x81] = some (.answerLong 0x0A0B 2 0x81 0x81) ∧
    decodeFrame ⟨none, none, .cfg, 0x01⟩ [0x0B, 0x0A, 0x02, 0x00, 0x01, 0x50] =
      some (.answerShort 0x0A0B 0x02 0x00 0x01 0x50) := by decide

/-- Requests written out by hand: selector, operands in the order of R104, low byte first (log entry 2). -/
theorem test_decode_requests_codec :
    decodeRequest [0x00] = .ok (.reserved, []) ∧
    decodeRequest [0x01, 0x11, 0x02, 0x01, 0x02, 0x50, 0x03] = .ok (.encShort 0x0211 0x01 0x02 0x50 0x03, []) ∧
    decodeRequest [0x02, 0x02, 0x00, 0x00, 0x00, 0xAA, 0xBB, 0xCC] = .ok (.decLong [0xAA, 0xBB], [0xCC]) ∧
    decodeRequest [0x03, 0x01, 0x00, 0x00, 0x00, 0xAA] = .ok (.decShort [0xAA], []) := by decide

theorem test_decode_requests_registers :
    decodeRequest [0x06, 0x11, 0x02] = .ok (.histPush 0x0211, []) ∧
    decodeRequest [0x09, 0xFB, 0x1A, 0x06, 0x00] = .ok (.modelLookup 0x00061AFB, []) ∧
    decodeRequest [0x08, 0x01, 0x00, 0x00, 0x00, 0x07] = .ok (.hwiDecode [0x07], []) ∧
    decodeRequest [0x0A, 0x00, 0x00, 0x00, 0x00] = .ok (.hwiLatch [], []) ∧
    decodeRequest [0x0B, 0x00, 0x01, 0x50] = .ok (.init none (some 0x50), []) ∧
    decodeRequest [0x0B, 0x01, 0x02, 0x00] = .ok (.init (some 0x02) none, []) ∧
    decodeRequest [0x0C, 0x01, 0x81, 0x04] = .ok (.setSuid (some 0x0481), []) ∧
    decodeRequest [0x0D, 0x01] = .ok (.setHandler true, []) ∧ decodeRequest [0x0E, 0x00] = .ok (.setVerbose false, []) ∧
    decodeRequest [0x0F, 0x23, 0x00, 0x00, 0x00] = .ok (.crRd 35, []) := by decide

theorem test_decode_requests_sequences :
    decodeRequest [0x10, 0x11, 0x02, 0x01, 0x03] = .ok (.query 0x0211 0x01 0x03, []) ∧
    decodeRequest [0x11, 0x23, 0x02, 0x01, 0x00] = .ok (.write 0x0223 0x01 0x00, []) ∧
    decodeRequest [0x12] = .ok (.getHwInfo, []) ∧
    decodeRequest [0x13, 0x02, 0x00, 0x00, 0x00, 0x01] = .ok (.setChannelState 2 true, []) ∧
    decodeRequest [0x14, 0x05, 0x00, 0x00, 0x00] = .ok (.getChannelState 5, []) ∧
    decodeRequest [0x15] = .error (.unknownSelector 0x15) ∧ decodeRequest [] = .error .truncated ∧
    decodeRequest [0x06, 0x11] = .error .truncated ∧ decodeRequest [0x0D, 0x02] = .error (.badFlag 0x02) := by decide

/-- The written syntax: the examples of R106. -/
theorem test_written :
    written (.encShort 0x0211 0x01 0x00 0x50 0x01) = some "ENC_SHORT 0x0211, 0x01, 0x00, 0x50, 0x01" ∧
    written (.decLong [0x11, 0x02, 0x01, 0x00, 0x50, 0x01]) = some "DEC_LONG [11 02 01 00 50 01]" ∧
    written (.histPush 0x0211) = some "HIST_PUSH 0x0211" ∧ written (.init none (some 0x50)) = some "INIT -, 0x50" ∧
    written (.setSuid (some 0x0481)) = some "SET_SUID 0x0481" ∧ written (.setSuid none) = some "SET_SUID -" := by decide

/-! ## Codec (V1 to V11) -/

theorem test_encShort_V4 : at? State.replies (exec (.encShort 0x0080 0xAB 0xCD 0x01 0x50) up) =
    some [.bytes [0x80, 0x00, 0xAB, 0xCD, 0x01, 0x50]] := by decide

/-- The 48-bit words given below V11. -/
theorem test_word_V1_V7 : (Header.mk 0x11 0x02 0x01 0x00 0x50 0x01).word = 0x015000010211 ∧
    (Header.mk 0x34 0x12 0x56 0x78 0x9A 0xBC).word = 0xBC9A78561234 := by decide

theorem test_decLong_V7 : at? State.replies (exec (.decLong [0x34, 0x12, 0x56, 0x78, 0x9A, 0xBC]) up) =
    some [.longHeader 0x1234 0x7856 0x9A 0xBC] := by decide

theorem test_decLong_V9 : at? State.replies (exec (.decLong [0x11, 0x02, 0x01, 0x02, 0x01]) up) =
    some [.error (.shortRead 5)] := by decide

theorem test_decShort_V8 : at? State.replies (exec (.decShort [0x34, 0x12, 0x56, 0x78, 0x9A, 0xBC]) up) =
    some [.shortHeader 0x1234 0x56 0x78 0x9A 0xBC] := by decide

theorem test_decShort_V10 : at? State.replies (exec (.decShort []) up) = some [.error (.shortRead 0)] := by decide

theorem test_reserved_V74 : at? State.replies (exec .reserved up) = some [.error (.reservedOp 0)] := by decide

/-! ## Classifier -/

/-- V24: the payload is read before the missing handler is reported, so the next frame is intact. -/
theorem test_clsStep_V24 :
    at? (fun t => (t.replies, t.rxbuf, t.statuslog)) (exec .clsStep
      (watching false [0x81, 0x04, 0x02, 0x00, 0x01, 0x50, 0xAA, 0xBB, 0x11, 0x02, 0x01, 0x01, 0x01, 0x50])) =
      some ([.error (.noStatusHandler 0x0481)], [0x11, 0x02, 0x01, 0x01, 0x01, 0x50], []) := by decide

/-- V30: a payload of which nothing arrives. -/
theorem test_clsStep_V30 :
    at? (fun t => (t.replies, t.rxbuf)) (exec .clsStep (withRx [0x0B, 0x0A, 0x04, 0x00, 0x81, 0x01])) =
      some ([.error (.shortPayload 4 0)], []) := by decide

/-- V20: the drain example of the source (S4). -/
theorem test_clsRun_V20 :
    at? (fun t => (t.replies, t.rxbuf, t.drainCnt, t.notelog)) (exec .clsRun (withRx
      ([0x80, 0x00, 0x01, 0x02, 0x01, 0x50] ++ [0x81, 0x00, 0x05, 0x00, 0x81, 0x50, 0x45, 0x52, 0x52, 0x4F, 0x52] ++
        [0x11, 0x02, 0x01, 0x02, 0x01, 0x50]))) =
      some ([.message ⟨0x0211, 0x01, 0x50, .shortParams 0x01 0x02⟩], [], 2,
        [(.hwResponse, ⟨0x0080, 0x01, 0x50, .shortParams 0x01 0x02⟩),
          (.hwRichResponse, ⟨0x0081, 0x81, 0x50, .longData 5 [0x45, 0x52, 0x52, 0x4F, 0x52]⟩)]) := by decide

/-- V47: one unsolicited frame more than DRAIN_MAX = 2. -/
theorem test_clsRun_V47 :
    at? (fun t => (t.replies, t.rxbuf, t.drainCnt, t.notelog.length)) (exec .clsRun
      { withRx ([0x80, 0x00, 0x00, 0x00, 0x01, 0x50] ++ [0x80, 0x00, 0x00, 0x00, 0x01, 0x50] ++
          [0x80, 0x00, 0x00, 0x00, 0x01, 0x50] ++ [0x11, 0x02, 0x01, 0x01, 0x01, 0x50]) with
        cfg := { vectorParams with drainMax := 2 } }) =
      some ([.error (.drainExhausted 2)], [0x11, 0x02, 0x01, 0x01, 0x01, 0x50], 2, 3) := by decide

/-- V15: an id 0x0080 is short even where the address bytes look long. -/
theorem test_hwResponse_V15 :
    at? (fun t => (t.replies, t.rxbuf, t.notelog)) (exec (.hwResponse 0x05 0x00 0x81 0x01) (withRx [0x11, 0x22])) =
      some ([.frame (.consumed .hwResponse)], [0x11, 0x22],
        [(.hwResponse, ⟨0x0080, 0x81, 0x01, .shortParams 0x05 0x00⟩)]) := by decide

/-- V18: VERBOSE = 0, the payload is read and dropped. -/
theorem test_hwRichResponse_V18 :
    at? (fun t => (t.replies, t.rxbuf, t.notelog)) (exec (.hwRichResponse 5 0x81 0x50)
      { withRx [0x45, 0x52, 0x52, 0x4F, 0x52] with verbose := false }) =
      some ([.frame (.consumed .hwRichResponse)], [], []) := by decide

/-- V19. -/
theorem test_statusUpdate_V19 :
    at? (fun t => (t.replies, t.rxbuf, t.statuslog, t.notelog)) (exec (.statusUpdate 0x0481 2 0x01 0x50)
      (watching true [0xAA, 0xBB])) =
      some ([.frame (.consumed .statusUpdate)], [], [⟨0x0481, 0x01, 0x50, .longData 2 [0xAA, 0xBB]⟩], []) := by decide

/-- V13. -/
theorem test_answerLong_V13 :
    at? (fun t => (t.replies, t.rxbuf)) (exec (.answerLong 0x0A0B 4 0x81 0x01) (withRx [0xDE, 0xAD, 0xBE, 0xEF])) =
      some ([.frame (.answer ⟨0x0A0B, 0x81, 0x01, .longData 4 [0xDE, 0xAD, 0xBE, 0xEF]⟩)], []) := by decide

/-- V12. -/
theorem test_answerShort_V12 :
    at? (fun t => (t.replies, t.rxbuf)) (exec (.answerShort 0x0211 0x01 0x02 0x01 0x50) (withRx [0x99])) =
      some ([.frame (.answer ⟨0x0211, 0x01, 0x50, .shortParams 0x01 0x02⟩)], [0x99]) := by decide

/-! ## Command History -/

/-- V52, V53: duplicates are kept. -/
theorem test_histPush_V53 :
    at? (fun t => (t.hist, t.cnt.val, t.wp.val)) (exec (.histPush 0x0005) (pushed 0x0005 up)) =
      some ([0x0005, 0x0005], 2, 2) := by decide

/-- V32: the 21st push on a full ring of 0x0100 to 0x0113. -/
theorem test_histPush_V32 :
    at? (fun t => (t.hist.head?, t.hist.getLast?, t.cnt.val, t.wp.val, t.slot 0)) (exec (.histPush 0x0114)
      { up with ring := Vector.ofFn fun k => BitVec.ofNat 16 (0x0100 + k.val), wp := 0, cnt := 20 }) =
      some (some 0x0101, some 0x0114, 20, 1, 0x0114) := by decide

/-- V51, V56: the empty history and the id 0 are told apart. -/
theorem test_histLast_V51_V56 : at? State.replies (exec .histLast up) = some [.last none] ∧
    at? State.replies (exec .histLast (pushed 0x0000 up)) = some [.last (some 0x0000)] := by decide

/-! ## Hardware Identity Decoder -/

/-- V40 (S5). -/
theorem test_hwiDecode_V40 : at? State.replies (exec (.hwiDecode payload40) up) =
    some [.identity
      { serialNumber := 400123
        modelText := [0x42, 0x53, 0x43, 0x31, 0x30, 0x31]
        hardwareType := 0x0010
        softwareVersion := 0x00020304
        notes := [0x73, 0x79, 0x6E, 0x74, 0x68, 0x65, 0x74, 0x69, 0x63, 0x20, 0x6E, 0x6F, 0x74, 0x65, 0x73]
        hardwareVersion := 0x0003
        modState := 0x0000
        channelCount := 0x0001
        model := some ⟨"Single channel stepper driver", "BSC101"⟩ }] := by decide

/-- V43: the printed size of the source is refused. -/
theorem test_hwiDecode_V43 : at? State.replies (exec (.hwiDecode (nulls 74)) up) = some [.error (.badInfoLength 74)] := by
  decide

/-- V40: the cache after HWI_LATCH. -/
theorem test_hwiLatch_V40 : at? State.ident (exec (.hwiLatch payload40) up) = some (some ⟨0x00061AFB, some 40, 1⟩) := by
  decide

/-- V46: the cache is overwritten as a whole, the old prefix is not kept. -/
theorem test_hwiLatch_V46 :
    at? State.ident (exec (.hwiLatch payload41) { up with ident := some ⟨0x00061AFB, some 40, 1⟩ }) =
      some (some ⟨0x00BC614E, none, 2⟩) := by decide

/-- V57, V58, V60, V61, V62, V63. -/
theorem test_trim : trim [0x20] [0x41, 0x00, 0x42, 0x00, 0x00, 0x20, 0x00, 0x20] = [0x41, 0x00, 0x42] ∧
    trim [0x20] [0x20, 0x20, 0x20, 0x20, 0x20, 0x20, 0x20, 0x20] = [] ∧
    trim [0x20] [0x41, 0x41, 0x41, 0x41, 0x41, 0x41, 0x41, 0x41] = [0x41, 0x41, 0x41, 0x41, 0x41, 0x41, 0x41, 0x41] ∧
    trim [0x20] [0x00, 0x00, 0x00, 0x00, 0x00, 0x00, 0x00, 0x41] = [0x00, 0x00, 0x00, 0x00, 0x00, 0x00, 0x00, 0x41] ∧
    trim [0x20] [0x41, 0x20, 0x20, 0x00, 0x00, 0x20, 0x00, 0x00] = [0x41] ∧
    trim [0x20] [0x20, 0x41, 0x00, 0x00, 0x00, 0x00, 0x00, 0x00] = [0x20, 0x41] := by decide

/-- The table of prefixes after V63. -/
theorem test_prefix2 : prefix2 400123 = some 40 ∧ prefix2 40 = some 40 ∧ prefix2 409999 = some 40 ∧
    prefix2 4000000000 = some 40 ∧ prefix2 399999 = some 39 ∧ prefix2 100 = some 10 ∧ prefix2 10 = some 10 ∧
    prefix2 99 = some 99 ∧ prefix2 1000000000 = some 10 ∧ prefix2 4294967295 = some 42 ∧ prefix2 12345678 = some 12 ∧
    prefix2 9 = none ∧ prefix2 0 = none := by decide

theorem test_modelLookup : at? State.replies (exec (.modelLookup 0xEE6B2800) up) =
      some [.model (some ⟨"Single channel stepper driver", "BSC101"⟩)] ∧
    at? State.replies (exec (.modelLookup 0x00061A7F) up) = some [.model none] := by decide

/-! ## Configuration and register access -/

/-- V69: whatever the registers were. -/
theorem test_init_V69 :
    let o := exec (.init (some 0x02) (some 0x81))
      { watching true [] with verbose := false, ident := some ⟨0x00061AFB, some 40, 1⟩ }
    at? (fun t => (t.src, t.dest, t.suid, t.handler, t.verbose)) o = some (0x02, some 0x81, none, false, true) ∧
    at? (fun t => (t.hist, t.ident, t.replies)) o = some ([], none, [.done]) := by decide

/-- V70: the error leaves SRC set and DEST_SET = 0. -/
theorem test_init_V70 : at? (fun t => (t.src, t.dest, t.replies)) (exec (.init (some 0x02) none) up) =
    some (0x02, none, [.error .noDestination]) := by decide

theorem test_setSuid_V71 : at? State.suid (exec (.setSuid (some 0x0481)) up) = some (some 0x0481) ∧
    at? State.suid (exec (.setSuid none) { up with suid := some 0x0481 }) = some none := by decide

theorem test_setHandler_V72 : at? State.handler (exec (.setHandler true) up) = some true := by decide

theorem test_setVerbose_V72 : at? State.verbose (exec (.setVerbose false) up) = some false := by decide

/-- Registers of V68, V71, V72, V52, V40. -/
theorem test_crRd_values :
    at? State.replies (exec (.crRd 1) up) = some [.value 0x150] ∧
    at? State.replies (exec (.crRd 2) { up with suid := some 0x0481 }) = some [.value 0x10481] ∧
    at? State.replies (exec (.crRd 3) { up with handler := true }) = some [.value 0x3] ∧
    at? State.replies (exec (.crRd 7) (pushed 0x0005 up)) = some [.value 0x10005] ∧
    at? State.replies (exec (.crRd 16) (pushed 0x0005 up)) = some [.value 0x10005] ∧
    at? State.replies (exec (.crRd 9) { up with ident := some ⟨0x00061AFB, some 40, 1⟩ }) = some [.value 0xA8] := by decide

/-- V73. -/
theorem test_crRd_V73 : at? State.replies (exec (.crRd 11) up) = some [.error (.badRegister 11)] ∧
    at? State.replies (exec (.crRd 15) up) = some [.error (.badRegister 15)] ∧
    at? State.replies (exec (.crRd 36) up) = some [.error (.badRegister 36)] ∧
    at? State.replies (exec (.crRd 255) up) = some [.error (.badRegister 255)] := by decide

/-! ## Host sequences -/

/-- V75: stale bytes are dropped before the send. -/
theorem test_query_V75 :
    at? (fun t => (t.replies, t.txlog, t.hist, t.rxbuf)) (exec (.query 0x0211 0x01 0x00)
      { arriving [0x11, 0x02, 0x01, 0x01, 0x01, 0x50] with rxbuf := [0xDE, 0xAD, 0xBE] }) =
      some ([.message ⟨0x0211, 0x01, 0x50, .shortParams 0x01 0x01⟩], [0x11, 0x02, 0x01, 0x00, 0x50, 0x01], [0x0211], []) := by
  decide

/-- V76: the push stays although the query failed. -/
theorem test_query_V76 : at? (fun t => (t.replies, t.txlog, t.hist)) (exec (.query 0x0211 0x01 0x00) up) =
    some ([.error .noFrame], [0x11, 0x02, 0x01, 0x00, 0x50, 0x01], [0x0211]) := by decide

/-- V78: WRITE does not flush. -/
theorem test_write_V78 : at? (fun t => (t.replies, t.txlog, t.hist, t.rxbuf)) (exec (.write 0x0223 0x01 0x00)
      (withRx [0xDE, 0xAD])) = some ([.done], [0x23, 0x02, 0x01, 0x00, 0x50, 0x01], [0x0223], [0xDE, 0xAD]) := by decide

/-- P2, the answer of V40 behind the header 0B 0A 54 00 D0 50. -/
theorem test_getHwInfo_P2 :
    at? (fun t => (t.txlog, t.ident, t.hist, t.rxbuf)) (exec .getHwInfo
      { arriving ([0x0B, 0x0A, 0x54, 0x00, 0xD0, 0x50] ++ payload40) with rxbuf := [0xDE, 0xAD, 0xBE] }) =
      some ([0x05, 0x00, 0x00, 0x00, 0x50, 0x01], some ⟨0x00061AFB, some 40, 1⟩, [0x0005], []) := by decide

/-- V84, V85. -/
theorem test_getHwInfo_V84_V85 :
    at? (fun t => (t.replies, t.ident)) (exec .getHwInfo (arriving [0x0B, 0x0A, 0x00, 0x00, 0x01, 0x50])) =
      some ([.error .infoNotLong], none) ∧
    at? (fun t => (t.replies, t.ident)) (exec .getHwInfo (arriving ([0x0B, 0x0A, 0x0A, 0x00, 0x81, 0x01] ++ nulls 10))) =
      some ([.error (.badInfoLength 10)], none) := by decide

/-- V79. -/
theorem test_setChannelState_V79 :
    at? State.txlog (exec (.setChannelState 2 true) up) = some [0x10, 0x02, 0x02, 0x01, 0x50, 0x01] ∧
    at? State.txlog (exec (.setChannelState 4 false) up) = some [0x10, 0x02, 0x08, 0x02, 0x50, 0x01] := by decide

/-- V64 (S8). -/
theorem test_setChannelState_V64 : at? (fun t => (t.replies, t.txlog, t.hist)) (exec (.setChannelState 5 true) up) =
    some ([.error (.unknownChannel 5)], [], []) := by decide

/-- V66 (S6), V80, and P1: through unsolicited traffic. -/
theorem test_getChannelState_V66_V80_P1 :
    at? State.replies (exec (.getChannelState 1) (arriving [0x11, 0x02, 0x01, 0x01, 0x01, 0x50])) =
      some [.channelState true] ∧
    at? (fun t => (t.replies, t.txlog)) (exec (.getChannelState 3) (arriving [0x11, 0x02, 0x04, 0x02, 0x01, 0x50])) =
      some ([.channelState false], [0x11, 0x02, 0x04, 0x00, 0x50, 0x01]) ∧
    at? (fun t => (t.replies, t.hist, t.notelog.length, t.drainCnt, t.rxbuf))
      (exec (.getChannelState 1) (arriving ([0x80, 0x00, 0x01, 0x02, 0x01, 0x50, 0x81, 0x00, 0x05, 0x00, 0x81, 0x50] ++
        [0x45, 0x52, 0x52, 0x4F, 0x52, 0x11, 0x02, 0x01, 0x02, 0x01, 0x50]))) =
      some ([.channelState false], [0x0211], 2, 2, []) := by decide

/-- V67 (S7), V83. -/
theorem test_getChannelState_V67_V83 :
    at? State.replies (exec (.getChannelState 1) (arriving [0x11, 0x02, 0x01, 0x03, 0x01, 0x50])) =
      some [.error (.badChannelState 0x03)] ∧
    at? State.replies (exec (.getChannelState 1) (arriving [0x11, 0x02, 0x00, 0x00, 0x81, 0x01])) =
      some [.error .expectedShort] := by decide

/-! ## Witnesses: for each obligation with hypotheses, a state and operands that meet them all -/

/-- An outcome that is a next state. -/
theorem next_of_after? {o : Host.Outcome State Fault Refusal} {t : State} (h : after? o = some t) : o = .next t := by
  cases o <;> simp [after?] at h
  rw [h]

/-- The block with one request waiting. -/
def asked (r : Bytes) : State := { up with requests := [r] }

/-- StepRunsTheDecodedRequest, each clause. -/
theorem witness_StepRunsTheDecodedRequest :
    ((asked [0x07]).busy = false ∧ (asked [0x07]).requests = [0x07] :: [] ∧ decodeRequest [0x07] = .ok (.histLast, [])) ∧
    ((asked [0xFF]).busy = false ∧ (asked [0xFF]).requests = [0xFF] :: [] ∧
      decodeRequest [0xFF] = .error (.unknownSelector 0xFF)) ∧
    ((asked [0x06]).busy = false ∧ (asked [0x06]).requests = [0x06] :: [] ∧ decodeRequest [0x06] = .error .truncated) ∧
    ((asked [0x0E, 0x02]).busy = false ∧ (asked [0x0E, 0x02]).requests = [0x0E, 0x02] :: [] ∧
      decodeRequest [0x0E, 0x02] = .error (.badFlag 0x02)) := by decide

/-- StepHoldsARequestWhileBusy, both disjuncts. -/
theorem witness_StepHoldsARequestWhileBusy :
    ({ up with busy := true, requests := [[0x07]] } : State).busy = true ∧ up.requests = [] := by decide

/-- PlacedWordRunsNext, both clauses. -/
theorem witness_PlacedWordRunsNext : up.busy = false ∧
    (∃ i, decodeTableWord 8 0x7 = some i ∧ i.fromRx = false) ∧
    (∃ i, decodeTableWord 48 0x5001CDAB0080 = some i ∧ i.fromRx = true) :=
  ⟨rfl, ⟨.histLast, by decide⟩, ⟨.hwResponse 0xAB 0xCD 0x01 0x50, by decide⟩⟩

/-- DecodersReadTheFirstSixBytes and CodecRoundTrips: lengths at the boundary. -/
theorem witness_codec : ([] : Bytes).length < 6 ∧ ([1, 2, 3, 4, 5] : Bytes).length < 6 ∧
    ([1, 2, 3, 4, 5, 6] : Bytes).length = 6 := by decide

/-- EveryHeaderFallsInItsClass, each clause. -/
theorem witness_EveryHeaderFallsInItsClass :
    (Header.mk 0x80 0x00 1 2 1 0x50).id = 0x0080 ∧ (Header.mk 0x81 0x00 1 2 1 0x50).id = 0x0081 ∧
    ((Header.mk 0x82 0x00 1 2 1 0x50).id ≠ 0x0080 ∧ (Header.mk 0x82 0x00 1 2 1 0x50).id ≠ 0x0081 ∧
      some 0x0082 = some (Header.mk 0x82 0x00 1 2 1 0x50).id) ∧
    ((Header.mk 0x7F 0x00 1 2 0xD0 0x50).id ≠ 0x0080 ∧ (Header.mk 0x7F 0x00 1 2 0xD0 0x50).id ≠ 0x0081 ∧
      ¬ (none = some (Header.mk 0x7F 0x00 1 2 0xD0 0x50).id) ∧ (0x50 ||| 0x80 : Byte) = 0xD0) ∧
    ((0x50 ||| 0x80 : Byte) ≠ 0x81 ∧ (0x01 ||| 0x80 : Byte) = 0x81) := by decide

/-- HwRichResponseIsConsumed, StatusUpdateGoesToTheHandler and AnswerLongIsReturned: exactly the payload is there, it arrives
while the read waits, and the empty payload; with and without a handler. -/
theorem witness_payload_there :
    (2 : Word16).toNat ≤ (atRead 2 (withRx [0xAA, 0xBB])).rxbuf.length ∧
    (2 : Word16).toNat ≤ (atRead 2 (arriving [0xAA, 0xBB])).rxbuf.length ∧
    (0 : Word16).toNat ≤ (atRead 0 up).rxbuf.length ∧ (watching true [0xAA, 0xBB]).handler = true ∧
    (watching false [0xAA, 0xBB]).handler = false ∧
    (2 : Word16).toNat ≤ (atRead 2 (watching false [0xAA, 0xBB])).rxbuf.length := by decide

/-- CutPayloadIsAFrameError: one byte short, for each of the three instructions. -/
theorem witness_CutPayloadIsAFrameError :
    (atRead 2 (withRx [0xAA])).rxbuf.length < (2 : Word16).toNat ∧
    (∀ i ∈ [Instr.hwRichResponse 2 0x81 0x50, .statusUpdate 0x0481 2 0x81 0x50, .answerLong 0x0481 2 0x81 0x50],
      i ∈ [Instr.hwRichResponse 2 0x81 0x50, .statusUpdate 0x0481 2 0x81 0x50, .answerLong 0x0481 2 0x81 0x50]) := by decide

/-- ClsStepRunsTheFrameItReads. -/
theorem witness_ClsStepRunsTheFrameItReads :
    decodeFrame (watching true []).frameContext (atRead 6 (watching true [0x81, 0x04, 0x02, 0x00, 0x01, 0x50, 0xAA, 0xBB])).rxbuf =
      some (.statusUpdate 0x0481 2 0x01 0x50) := by decide

/-- ShortHeaderIsTimeoutOrFrameError: no byte, and five. -/
theorem witness_ShortHeaderIsTimeoutOrFrameError :
    (atRead 6 up).rxbuf.length < 6 ∧ (atRead 6 (withRx [0x11, 0x02, 0x01, 0x02, 0x01])).rxbuf.length < 6 := by decide

/-- An unsolicited frame with its payload. -/
def note : Frame × Bytes := (.hwRichResponse 2 0x01 0x50, [0xAA, 0xBB])

/-- A long answer with its payload. -/
def answer : Frame × Bytes := (.answerLong 0x0A0B 1 0xD0 0x50, [0x77])

/-- ClsStepTakesOneWholeFrame, for a frame of each class. -/
theorem witness_ClsStepTakesOneWholeFrame :
    (withRx (wire answer.1 answer.2 ++ [0x99])).incoming = [] ∧
    goodFrame (withRx []).frameContext false answer = true ∧ goodFrame (withRx []).frameContext false note = true ∧
    goodFrame (withRx []).frameContext false (.hwResponse 1 2 0x01 0x50, []) = true ∧
    goodFrame (withRx []).frameContext false (.answerShort 0x0A0B 1 2 0x01 0x50, []) = true ∧
    goodFrame (watching true []).frameContext true (.statusUpdate 0x0481 1 0x01 0x50, [0xAA]) = true := by decide

/-- ClsRunReturnsTheFirstAnswer: DRAIN_MAX = 2 unsolicited frames, the most there may be. -/
theorem witness_ClsRunReturnsTheFirstAnswer :
    let s : State := { withRx (wires [note, note] ++ wire answer.1 answer.2 ++ [0x99]) with
      cfg := { vectorParams with drainMax := 2 } }
    s.incoming = [] ∧ s.rxbuf = wires [note, note] ++ wire answer.1 answer.2 ++ [0x99] ∧
    (∀ p ∈ [note, note], unsolicited p.1 = true ∧ goodFrame s.frameContext s.handler p = true) ∧
    [note, note].length ≤ s.cfg.drainMax ∧ unsolicited answer.1 = false ∧
    goodFrame s.frameContext s.handler answer = true := by decide

/-- FloodExhaustsTheDrain: DRAIN_MAX = 1, two unsolicited frames. -/
theorem witness_FloodExhaustsTheDrain :
    let s : State := { withRx (wires [note, note] ++ [0x99]) with cfg := { vectorParams with drainMax := 1 } }
    s.incoming = [] ∧ s.rxbuf = wires [note, note] ++ [0x99] ∧
    (∀ p ∈ [note, note], unsolicited p.1 = true ∧ goodFrame s.frameContext s.handler p = true) ∧
    [note, note].length = s.cfg.drainMax + 1 := by decide

/-- ClassifierIgnoresTheConfiguredDestination and VerboseChangesOnlyNotifications: an instruction of each kind answers a next
state, with VERBOSE = 1 and with VERBOSE = 0; the run takes a notification and then times out, a status update finds a
handler. -/
theorem witness_classifier_answers :
    (after? (exec .clsStep (withRx (wire note.1 note.2)))).isSome = true ∧
    (after? (exec .clsRun (withRx (wire note.1 note.2)))).isSome = true ∧ (withRx []).verbose = true ∧
    (after? (exec .clsRun { withRx (wire note.1 note.2) with verbose := false })).isSome = true ∧
    (∀ i ∈ [Instr.hwResponse 1 2 3 4, .hwRichResponse 0 1 2, .statusUpdate 0x0481 0 1 2, .answerLong 0x0481 0 1 2,
      .answerShort 0x0481 1 2 3 4], i.fromRx = true ∧ (after? (exec i (watching true []))).isSome = true) := by decide

/-- NewestIdDecidesStatusUpdates: the id sent is the status-update id, and is another. -/
theorem witness_NewestIdDecidesStatusUpdates : (watching true []).suid = some 0x0481 ∧ (0x0481 : Word16) ≠ 0x0080 ∧
    (0x0481 : Word16) ≠ 0x0081 ∧ (Header.mk 0x81 0x04 2 0 1 0x50).id = 0x0481 ∧ (0x0211 : Word16) ≠ 0x0481 := by decide

/-- HistoryKeepsTheLastTwenty. -/
theorem witness_HistoryKeepsTheLastTwenty : up.hist = [] := by decide

/-- HwiDecodeUnpacksTheFixedLayout and HwiLatchFillsTheCacheOrLeavesIt: 84 bytes with a known and with an unknown model, and
the lengths beside 84. -/
theorem witness_identity : payload40.length = 84 ∧ payload41.length = 84 ∧ (nulls 83).length ≠ 84 ∧
    (nulls 85).length ≠ 84 ∧ (unpackIdentity up.cfg payload41).model = none ∧
    (unpackIdentity up.cfg payload40).model = some knownModel := by decide

/-- TrimCutsOnlyTheTrailingRun, the kept end. -/
theorem witness_TrimCutsOnlyTheTrailingRun : trim [0x20] [0x41, 0x42, 0x00] = [0x41] ++ [0x42] := by decide

/-- ModelLookupUsesTheTwoLeadingDigits: below 10, at 10, at 99, and prefix 40 with well-formed parameters. -/
theorem witness_ModelLookupUsesTheTwoLeadingDigits : (9 : Word32).toNat < 10 ∧ 10 ≤ (10 : Word32).toNat ∧
    (10 ≤ (10 : Word32).toNat / 10 ^ 0 ∧ (99 : Word32).toNat / 10 ^ 0 ≤ 99) ∧ up.cfg.wf = true ∧
    (400123 : Word32).toNat / 10 ^ 4 = 40 := by decide

/-- UnconfiguredSequencesDoNothing: no destination, and each form of instruction, the channels at both ends. -/
theorem witness_UnconfiguredSequencesDoNothing : State.reset.dest = none ∧
    (∃ id p1 p2, Instr.query 0x0211 1 0 = .query id p1 p2 ∨ Instr.query 0x0211 1 0 = .write id p1 p2) ∧
    (∃ c, 1 ≤ c ∧ c ≤ 4 ∧ (Instr.getChannelState 1 = .getChannelState c ∨
      ∃ e, Instr.getChannelState 1 = .setChannelState c e)) ∧
    (∃ c, 1 ≤ c ∧ c ≤ 4 ∧ (Instr.setChannelState 4 true = .getChannelState c ∨
      ∃ e, Instr.setChannelState 4 true = .setChannelState c e)) :=
  ⟨rfl, ⟨0x0211, 1, 0, .inl rfl⟩, ⟨1, by decide, by decide, .inl rfl⟩, ⟨4, by decide, by decide, .inr ⟨true, rfl⟩⟩⟩

/-- UnknownChannelTouchesNothing: the channels beside 1 to 4. -/
theorem witness_UnknownChannelTouchesNothing : ((0 : Nat) = 0 ∨ 5 ≤ (0 : Nat)) ∧ ((5 : Nat) = 0 ∨ 5 ≤ (5 : Nat)) := by decide

/-- WritePushesAndSends and QueryIsFlushPushSendRun. -/
theorem witness_configured : up.dest = some 0x50 := by decide

/-- QueryReturnsTheAnswerThatArrives: two unsolicited frames, stale bytes, an answer. -/
theorem witness_QueryReturnsTheAnswerThatArrives :
    let s : State := { arriving (wires [note, note] ++ wire answer.1 answer.2 ++ [0x99]) with
      rxbuf := [0xDE, 0xAD], cfg := { vectorParams with drainMax := 2 } }
    s.dest = some 0x50 ∧ s.incoming = [wires [note, note] ++ wire answer.1 answer.2 ++ [0x99]] ∧
    (∀ p ∈ [note, note], unsolicited p.1 = true ∧ goodFrame (contextAfterPush s 0x0211) s.handler p = true) ∧
    [note, note].length ≤ s.cfg.drainMax ∧ unsolicited answer.1 = false ∧
    goodFrame (contextAfterPush s 0x0211) s.handler answer = true := by decide

/-- DRAIN_MAX = 2, and the two unsolicited frames it allows ahead of a frame with its payload arrive in one chunk. -/
def behindNotes (p : Frame × Bytes) : State :=
  { arriving (wires [note, note] ++ wire p.1 p.2 ++ [0x99]) with cfg := { vectorParams with drainMax := 2 } }

/-- The frames arrive, behind `behindNotes`, as the statements on whole sequences of request `id` ask. -/
def arrivesWhole (id : Word16) (p : Frame × Bytes) : Bool :=
  decide ((behindNotes p).dest = some 0x50) &&
    decide ((behindNotes p).incoming = [wires [note, note] ++ wire p.1 p.2 ++ [0x99]]) &&
    decide ([note, note].length ≤ (behindNotes p).cfg.drainMax) && unsolicited note.1 && !unsolicited p.1 &&
    goodFrame (contextAfterPush (behindNotes p) id) (behindNotes p).handler note &&
    goodFrame (contextAfterPush (behindNotes p) id) (behindNotes p).handler p

/-- GetHwInfoDecodesAndCachesTheAnswer, each clause behind the most unsolicited frames there may be: a long answer of 84
bytes with a known model and with an unknown one, one of another length, a short one. -/
theorem witness_GetHwInfoDecodesAndCachesTheAnswer :
    (arrivesWhole 0x0005 (.answerLong 0x0A0B 84 0xD0 0x50, payload40) = true ∧
      longForm (.answerLong 0x0A0B 84 0xD0 0x50) = true ∧ payload40.length = 84) ∧
    (arrivesWhole 0x0005 (.answerLong 0x0A0B 84 0xD0 0x50, payload41) = true ∧ payload41.length = 84) ∧
    (arrivesWhole 0x0005 answer = true ∧ longForm answer.1 = true ∧ answer.2.length ≠ 84) ∧
    (arrivesWhole 0x0005 (.answerShort 0x0A0B 0 0 0x01 0x50, []) = true ∧
      longForm (.answerShort 0x0A0B 0 0 0x01 0x50) = false) := by decide

/-- The block with SETCH_ACK = QUERY. -/
def acking (s : State) : State := { s with cfg := { vectorParams with setchAck := .query } }

/-- SetChannelStateSendsItsFrame: channels 1 and 4, both values of SETCH_ACK, the QUERY with an answer and with an error. -/
theorem witness_SetChannelStateSendsItsFrame :
    (0x01 : Byte).toNat = 2 ^ (1 - 1) ∧ (0x08 : Byte).toNat = 2 ^ (4 - 1) ∧ up.dest = some 0x50 ∧
    up.cfg.setchAck = .write ∧
    (acking up).cfg.setchAck = .query ∧ (acking (arriving (wire answer.1 answer.2))).cfg.setchAck = .query ∧
    at? State.replies (exec (.query 0x0210 0x08 0x01) (acking (arriving (wire answer.1 answer.2)))) =
      some ([] ++ [.message (frameMessage answer.1 answer.2)]) ∧
    at? State.replies (exec (.query 0x0210 0x01 0x02) (acking up)) = some ([] ++ [.error .noFrame]) := by decide

/-- GetChannelStateMapsTheAnswerBack: the channels at both ends, a short answer with each kind of param2 and a long one, behind
the most unsolicited frames there may be. -/
theorem witness_GetChannelStateMapsTheAnswerBack :
    (0x01 : Byte).toNat = 2 ^ (1 - 1) ∧ (0x08 : Byte).toNat = 2 ^ (4 - 1) ∧
    arrivesWhole 0x0211 (.answerShort 0x0211 1 0x01 0x01 0x50, []) = true ∧
    arrivesWhole 0x0211 (.answerShort 0x0211 1 0x02 0x01 0x50, []) = true ∧
    arrivesWhole 0x0211 (.answerShort 0x0211 1 0x03 0x01 0x50, []) = true ∧ arrivesWhole 0x0211 answer = true := by decide

/-- SequencesReturnTheErrorsOfTheirQuery: a query that times out. -/
theorem witness_SequencesReturnTheErrorsOfTheirQuery :
    at? State.replies (exec (.query 0x0005 0 0) up) = some (up.replies ++ [.error .noFrame]) ∧
    at? State.replies (exec (.query 0x0211 0x08 0) up) = some (up.replies ++ [.error .noFrame]) ∧
    (0x08 : Byte).toNat = 2 ^ (4 - 1) := by decide

/-- SequencesUseTheMessageOfTheirQuery: queries that reply a long and a short message, with a chunk of its own for the payload
of the notification ahead of them. -/
theorem witness_SequencesUseTheMessageOfTheirQuery :
    let s (p : Frame × Bytes) : State :=
      { up with incoming := [note.1.header.bytes, note.2, wire p.1 p.2] }
    at? State.replies (exec (.query 0x0005 0 0) (s answer)) =
      some ((s answer).replies ++ [.message ⟨0x0A0B, 0xD0, 0x50, .longData 1 [0x77]⟩]) ∧
    at? State.replies (exec (.query 0x0005 0 0) (s (.answerShort 0x0A0B 0 0 0x01 0x50, []))) =
      some ((s answer).replies ++ [.message ⟨0x0A0B, 0x01, 0x50, .shortParams 0 0⟩]) ∧
    (0x08 : Byte).toNat = 2 ^ (4 - 1) ∧
    at? State.replies (exec (.query 0x0211 0x08 0) (s (.answerShort 0x0211 8 1 0x01 0x50, []))) =
      some ((s answer).replies ++ [.message ⟨0x0211, 0x01, 0x50, .shortParams 8 1⟩]) := by decide

/-- InstructionsWriteOnlyTheirGroups, ErrorsAreThoseOfTheTable, RxIsConsumedFromTheFront, EverySentFrameIsShortAndAddressed
and EventLogsOnlyGrow: an instruction that answers a next state, one of them with an error, and a group it does not write. -/
theorem witness_exec_answers :
    (after? (exec (.query 0x0211 1 0) (arriving (wire note.1 note.2)))).isSome = true ∧
    Group.cache ∉ instrWrites (.query 0x0211 1 0) ∧
    at? State.replies (exec .clsStep up) = some (up.replies ++ [.error .noFrame]) := by decide

/-- StepKeepsTheInvariant: the invariant holds at a state in which a request waits and a step answers a next state. -/
theorem witness_StepKeepsTheInvariant :
    let s : State := { State.reset with requests := [[0x0B, 0x00, 0x01, 0x50]] }
    s.Inv ∧ ∃ t, step s = .next t := by
  refine ⟨⟨decided_wf, rfl, rfl, Nat.zero_le _, by decide, by decide, ?_, by decide, by decide, by decide⟩, _, rfl⟩
  intro k h
  cases h

/-- ResetAssumesOnlyTheKnownModelRow: prefix 40, another prefix, and the ends of the range, at reset. -/
theorem witness_ResetAssumesOnlyTheKnownModelRow : State.reset.cfg = State.reset.cfg ∧
    (10 ≤ (400123 : Word32).toNat / 10 ^ 4 ∧ (400123 : Word32).toNat / 10 ^ 4 = 40) ∧
    (10 ≤ (12345678 : Word32).toNat / 10 ^ 6 ∧ (12345678 : Word32).toNat / 10 ^ 6 = 12) ∧
    (10 ≤ (10 : Word32).toNat / 10 ^ 0 ∧ (99 : Word32).toNat / 10 ^ 0 ≤ 99) := ⟨rfl, by decide, by decide, by decide⟩

/-- WellFormedRequestsNeverStop: a request that names an operation. -/
theorem witness_WellFormedRequestsNeverStop :
    requestsOk { up with requests := [[0x07], [0x12]] } = true := by decide

/-- RequestsDecodeAsEncoded, at the largest register number. -/
theorem witness_RequestsDecodeAsEncoded : (Instr.crRd 4294967295).wf = true ∧
    (Instr.crRd 4294967295).fromRx = false := by decide

/-- FramesDecodeAsEncoded, a frame of each class, and bytes the RX decoder reads. -/
theorem witness_FramesDecodeAsEncoded :
    (classify ⟨some 0x0481, some 0x0481, .hdr, 0x01⟩ (Frame.statusUpdate 0x0481 2 0x01 0x50).header =
      .statusUpdate 0x0481 2 0x01 0x50) ∧
    (classify ⟨none, none, .cfg, 0x01⟩ (Frame.answerLong 0x0481 2 0x81 0x50).header = .answerLong 0x0481 2 0x81 0x50) ∧
    (classify ⟨none, none, .hdr, 0x01⟩ (Frame.answerShort 0x0481 2 0 0x81 0x50).header = .answerShort 0x0481 2 0 0x81 0x50) ∧
    (classify ⟨none, none, .hdr, 0x01⟩ (Frame.hwResponse 2 0 0x81 0x50).header = .hwResponse 2 0 0x81 0x50) ∧
    (classify ⟨none, none, .hdr, 0x01⟩ (Frame.hwRichResponse 2 0x81 0x50).header = .hwRichResponse 2 0x81 0x50) ∧
    (decodeFrame ⟨none, none, .hdr, 0x01⟩ [0x80, 0x00, 1, 2, 3, 4, 5]).isSome = true := by decide

end Sys2Proof.Machine.Tests
end

section
/-! ## Proofs of the codec family: ENC_SHORT (R121) -/

namespace Sys2Proof

/-- `v[7:0]`, the first byte of R12. -/
theorem lowByte_toNat (v : Word16) : (v.extractLsb' 0 8).toNat = v.toNat % 256 := by
  simp only [BitVec.extractLsb'_toNat, Nat.shiftRight_zero, Nat.reducePow]

/-- `v[15:8]`, the second byte of R12. A u16 is below `2^16`, so nothing is cut off the quotient. -/
theorem highByte_toNat (v : Word16) : (v.extractLsb' 8 8).toNat = v.toNat / 256 := by
  have := v.isLt
  simp only [BitVec.extractLsb'_toNat, Nat.shiftRight_eq_div_pow]
  omega

/-- The fields of a short-form header sit at the weights R121 gives them in the 48-bit word. -/
theorem Header.short_word_toNat (id : Word16) (p1 p2 dest source : Byte) :
    (Header.short id p1 p2 dest source).word.toNat =
      id.toNat + 2 ^ 16 * p1.toNat + 2 ^ 24 * p2.toNat + 2 ^ 32 * dest.toNat + 2 ^ 40 * source.toNat := by
  have hid : id.toNat % 256 + 2 ^ 8 * (id.toNat / 256) = id.toNat := Nat.mod_add_div id.toNat 256
  rw [Header.word_toNat]
  simp only [Header.short, lowByte_toNat, highByte_toNat, hid]

namespace Machine

/-- A transaction whose body only returns a value hands that value back and changes nothing else: BUSY, set for the body,
is cleared again (R72). -/
theorem transact_ret {α : Type} (f : α → Reply) (v : α) (s : State) :
    transact f (ret v) s = .next (handsBack (f v) s) := by
  rw [transact_eq, ret_fst, ret_snd, reply_ok]
  rfl

/-- ENC_SHORT hands back the bytes of the short-form header. -/
theorem exec_encShort (id : Word16) (p1 p2 dest source : Byte) (s : State) :
    exec (.encShort id p1 p2 dest source) s =
      .next (handsBack (.bytes (Header.short id p1 p2 dest source).bytes) s) :=
  transact_ret .bytes (encodeShort id p1 p2 dest source) s

/-- Settles O5: the two bytes of the id are those of `Header.short`, whose bytes and word the lemmas above give. -/
theorem encShortReturnsTheSixBytes : Obligations.EncShortReturnsTheSixBytes := by
  intro id p1 p2 dest source s
  exact ⟨id.extractLsb' 0 8, id.extractLsb' 8 8, lowByte_toNat id, highByte_toNat id,
    exec_encShort id p1 p2 dest source s, Header.short_word_toNat id p1 p2 dest source⟩

end Machine

end Sys2Proof
end

section
/-! ## Proofs of the history family: HIST_LAST (R172) -/

namespace Sys2Proof.Machine

/-- HIST_LAST hands back `last()`: the value the body reads is that of the start state, as setting BUSY leaves the ring as
it is. -/
theorem exec_histLast (s : State) : exec .histLast s = .next (handsBack (.last s.newest) s) :=
  transact_ret .last s.newest s

/-- Settles O27: the slot `(WP + 19) mod 20` that HIST_LAST reads holds the last entry of the sequence (`newest_eq`). -/
theorem histLastReturnsTheNewestEntry : Obligations.HistLastReturnsTheNewestEntry := by
  intro s
  rw [exec_histLast, newest_eq]

end Sys2Proof.Machine
end

section
/-! ## Proofs of the configuration family: SET_SUID, SET_HANDLER (R212, R213) and the registers that read them (R215) -/

namespace Sys2Proof.Machine

/-- A flag at position `k` weighs `2^k`. -/
theorem bitAt_toNat (b : Bool) {k : Nat} (hk : k < 32) : (bitAt b k).toNat = 2 ^ k * b.toNat := by
  cases b with
  | false => simp [bitAt]
  | true => simpa [bitAt, Nat.shiftLeft_eq] using Nat.pow_lt_pow_right one_lt_two hk

/-- A field below its valid bit: the two share no bit, so their numbers add up. -/
theorem validField_some_toNat {n k : Nat} (x : BitVec n) (hn : n ≤ k) (hk : k < 32) :
    (validField (some x) k).toNat = 2 ^ k + x.toNat := by
  have hx : x.toNat < 2 ^ k := x.isLt.trans_le (Nat.pow_le_pow_right two_pos hn)
  have hw : (x.setWidth 32).toNat = x.toNat := BitVec.toNat_setWidth_of_le (hn.trans hk.le)
  calc (validField (some x) k).toNat
      = x.toNat ||| 2 ^ k := by simp [validField, hw, bitAt_toNat true hk]
    _ = 2 ^ k ||| x.toNat := Nat.or_comm ..
    _ = 2 ^ k + x.toNat := by simpa using (Nat.two_pow_add_eq_or_of_lt hx 1).symm

/-- CR3 as a word: HANDLER in bit 0 and VERBOSE in bit 1 (R40). -/
theorem flagsWord_toNat (handler verbose : Bool) :
    (bitAt handler 0 ||| bitAt verbose 1).toNat = handler.toNat + 2 * verbose.toNat := by
  cases handler <;> cases verbose <;> decide

/-- CR_RD of a register that has a value hands the value back: BUSY, set for the body, is in no register. -/
theorem exec_crRd_of_some {n : Nat} {s : State} {w : Word32} (h : s.controlRegister n = some w) :
    exec (.crRd n) s = .next (handsBack (.value w) s) := by
  have hb : ({ s with busy := true } : State).controlRegister n = some w := h
  change transact .value (fun s => orRaise (s.controlRegister n) (.badRegister n) s) s = _
  rw [transact_eq, hb]
  rfl

/-- CR3 reads HANDLER and VERBOSE. -/
theorem exec_crRd_three (s : State) :
    exec (.crRd 3) s = .next (handsBack (.value (bitAt s.handler 0 ||| bitAt s.verbose 1)) s) :=
  exec_crRd_of_some rfl

/-- Settles O34: each setter hands back `done` with its one register written; CR2 reads SUID with its valid bit at position
16, and CR3 reads HANDLER at position 0. -/
theorem settersWriteOneRegister : Obligations.SettersWriteOneRegister := by
  refine ⟨fun v s => ⟨rfl, validField v 16, exec_crRd_of_some rfl, ?_⟩,
    fun present s => ⟨rfl, _, exec_crRd_three _, ?_⟩⟩
  · cases v with
    | none => rfl
    | some x => exact validField_some_toNat x le_rfl (by decide)
  · rw [flagsWord_toNat]
    cases present <;> simp [Nat.add_mod]

end Sys2Proof.Machine
end

section
/-! ## Proofs of the configuration family: SET_VERBOSE (R214). What the classifier never reads, and what it emits -/

namespace Sys2Proof.Machine

/-! ### States that differ in what the classifier does not read -/

/-- New values for what neither the classification of a frame nor its outcome depends on, beside NOTE_OUT. -/
structure Aside where
  /-- VERBOSE (R29). -/
  verbose : Bool
  /-- BUSY (R38); none leaves it as it is, as in the fields below. -/
  busy : Option Bool := none
  /-- What the callers were handed. -/
  replies : Option (List Reply) := none
  /-- DRAIN_CNT (R37), which the drain reads but one frame does not. -/
  drainCnt : Option Nat := none

/-- The state with the values of `u`, and `l` on NOTE_OUT. -/
def Aside.on (u : Aside) (l : List (NoteKind × Message)) (s : State) : State :=
  { s with
    verbose := u.verbose
    busy := u.busy.getD s.busy
    replies := u.replies.getD s.replies
    drainCnt := u.drainCnt.getD s.drainCnt
    notelog := l }

/-- The events of what follows `m`: those that `notes` says for its value and its state, and none after an error. -/
def Run.notes {α : Type} (m : Run α) (notes : α → State → List (NoteKind × Message)) : List (NoteKind × Message) :=
  match m.2 with
  | .ok v => notes v m.1
  | .raised _ => []

/-- The body runs alike under the values of `u`, to the same end; with VERBOSE = 1 it adds `notes` to NOTE_OUT, with
VERBOSE = 0 nothing. -/
def Emits {α : Type} (u : Aside) (notes : State → List (NoteKind × Message)) (body : State → Run α) : Prop :=
  ∀ l s, body (u.on l s) = (u.on (l ++ if u.verbose then notes s else []) (body s).1, (body s).2)

section
variable {α β : Type} {u : Aside} {notes notes' : State → List (NoteKind × Message)}

theorem Emits.congr {body : State → Run α} (h : Emits u notes body) (e : ∀ s, notes s = notes' s) :
    Emits u notes' body := funext e ▸ h

/-- A body without events: it commutes with the change of values. -/
theorem emits_nil {body : State → Run α} (h : ∀ l s, body (u.on l s) = (u.on l (body s).1, (body s).2)) :
    Emits u (fun _ => []) body := fun l s => by simp [h]

/-- Statement after statement emits what each emits. -/
theorem Emits.andThen {m : State → Run α} {f : α → State → Run β} {tail : α → State → List (NoteKind × Message)}
    (hm : Emits u notes m) (hf : ∀ v, Emits u (tail v) (f v)) :
    Emits u (fun s => notes s ++ (m s).notes tail) (fun s => (m s).andThen f) := by
  intro l s
  simp only [hm l s]
  obtain ⟨t, v | e⟩ := m s
  · simp only [Run.andThen, Run.notes]
    rw [hf v]
    cases u.verbose <;> simp
  · simp [Run.andThen, Run.notes]

end

/-! ### Reads and events -/

section
variable (u : Aside) (l : List (NoteKind × Message)) (s : State)

@[simp] theorem on_verbose : (u.on l s).verbose = u.verbose := rfl
@[simp] theorem on_drainCnt : (u.on l s).drainCnt = u.drainCnt.getD s.drainCnt := rfl
@[simp] theorem on_handler : (u.on l s).handler = s.handler := rfl
@[simp] theorem on_rxbuf : (u.on l s).rxbuf = s.rxbuf := rfl
@[simp] theorem on_incoming : (u.on l s).incoming = s.incoming := rfl

/-- The classification reads none of the values of `u` (R94). -/
@[simp] theorem on_frameContext : (u.on l s).frameContext = s.frameContext := rfl

theorem deliver_on : deliver (u.on l s) = u.on l (deliver s) := by
  unfold deliver
  rw [on_incoming]
  cases s.incoming <;> rfl

theorem atRead_on (n : Nat) : atRead n (u.on l s) = u.on l (atRead n s) := by
  unfold atRead
  split
  · rfl
  · exact deliver_on u l s

theorem afterRead_on (n : Nat) : afterRead n (u.on l s) = u.on l (afterRead n s) := by
  simp only [afterRead, atRead_on]
  rfl

/-- A notification writes NOTE_OUT alone. -/
theorem on_notify (k : NoteKind) (m : Message) : u.on l (notify k m s) = u.on l s := by
  unfold notify
  split <;> rfl

/-- It is one event with VERBOSE = 1 and none with VERBOSE = 0 (R29). -/
theorem notify_on (k : NoteKind) (m : Message) :
    notify k m (u.on l s) = u.on (l ++ if u.verbose then [(k, m)] else []) s := by
  unfold notify
  rw [on_verbose]
  split
  · rfl
  · rw [List.append_nil]

end

section
variable {u : Aside}

theorem emits_notify {α : Type} (v : α) (k : NoteKind) (m : Message) :
    Emits u (fun _ => [(k, m)]) fun s => ret v (notify k m s) := by
  intro l s
  simp only [notify_on, on_notify, ret_fst, ret_snd]
  rfl

theorem emits_readPayload (n : Word16) : Emits u (fun _ => []) (readPayload n) := by
  refine emits_nil fun l s => ?_
  rw [readPayload_eq, readPayload_eq, atRead_on, afterRead_on, on_rxbuf]
  split <;> rfl

theorem emits_readHeader : Emits u (fun _ => []) readHeader := by
  refine emits_nil fun l s => ?_
  rw [readHeader_eq, readHeader_eq, atRead_on, afterRead_on, on_rxbuf]
  cases Header.ofBytes? (atRead 6 s).rxbuf with
  | some h => rfl
  | none => dsimp only; split <;> rfl

/-! ### One frame -/

/-- What a class emits depends on the stream and the arrivals alone. -/
theorem frameNotes_congr (f : Frame) {s t : State} (h1 : t.rxbuf = s.rxbuf) (h2 : t.incoming = s.incoming) :
    frameNotes f t = frameNotes f s := by
  simp only [frameNotes, (atRead_congr (framePayloadLength f) h1 h2).1]

/-- A class with a payload, step 3 to 5: where the payload is there whole, its events are those of the rest of the step. -/
theorem emits_payloadThen {f : Frame} {n : Word16} {k : Bytes → State → Run FrameOutcome}
    (hn : framePayloadLength f = n.toNat) (hk : ∀ data, Emits u (fun _ => noteEvents true f data) (k data)) :
    Emits u (frameNotes f) (fun s => (readPayload n s).andThen k) := by
  refine ((emits_readPayload n).andThen hk).congr fun s => ?_
  rw [List.nil_append, readPayload_eq, frameNotes, hn]
  split <;> rfl

theorem emits_takeHwResponse (p1 p2 d c : Byte) :
    Emits u (frameNotes (.hwResponse p1 p2 d c)) (takeHwResponse p1 p2 d c) :=
  emits_notify _ _ _

theorem emits_takeHwRichResponse (n : Word16) (d c : Byte) :
    Emits u (frameNotes (.hwRichResponse n d c)) (takeHwRichResponse n d c) :=
  emits_payloadThen rfl fun _ => emits_notify _ _ _

theorem emits_takeStatusUpdate (i n : Word16) (d c : Byte) :
    Emits u (frameNotes (.statusUpdate i n d c)) (takeStatusUpdate i n d c) := by
  refine emits_payloadThen rfl fun data => emits_nil fun l s => ?_
  rw [on_handler]
  split <;> rfl

theorem emits_takeAnswerLong (i n : Word16) (d c : Byte) :
    Emits u (frameNotes (.answerLong i n d c)) (takeAnswerLong i n d c) :=
  emits_payloadThen rfl fun _ => emits_nil fun _ _ => rfl

theorem emits_takeAnswerShort (i : Word16) (p1 p2 d c : Byte) :
    Emits u (frameNotes (.answerShort i p1 p2 d c)) (takeAnswerShort i p1 p2 d c) :=
  emits_nil fun _ _ => rfl

theorem emits_takeFrame (f : Frame) : Emits u (frameNotes f) (takeFrame f) := by
  cases f with
  | hwResponse p1 p2 d c => exact emits_takeHwResponse p1 p2 d c
  | hwRichResponse n d c => exact emits_takeHwRichResponse n d c
  | statusUpdate i n d c => exact emits_takeStatusUpdate i n d c
  | answerLong i n d c => exact emits_takeAnswerLong i n d c
  | answerShort i p1 p2 d c => exact emits_takeAnswerShort i p1 p2 d c

/-- CLS_STEP emits what the class of its frame emits, and nothing without a header. -/
theorem emits_clsStep : Emits u stepNotes clsStep := by
  have htake : ∀ h, Emits u (fun s => frameNotes (classify s.frameContext h) s)
      (fun s => takeFrame (classify s.frameContext h) s) := fun h l s => emits_takeFrame (classify s.frameContext h) l s
  refine (emits_readHeader.andThen htake).congr fun s => ?_
  rw [List.nil_append, readHeader_eq, stepNotes]
  cases Header.ofBytes? (atRead 6 s).rxbuf with
  | some h =>
    simp only [Run.notes, ret, frameContext_setHdr, frameContext_afterRead]
    exact frameNotes_congr _ rfl rfl
  | none => dsimp only; split <;> rfl

theorem stepNotes_on (l : List (NoteKind × Message)) (s : State) : stepNotes (u.on l s) = stepNotes s := by
  have hf : ∀ f t, frameNotes f (u.on l t) = frameNotes f t := fun f t => frameNotes_congr f rfl rfl
  unfold stepNotes
  simp only [atRead_on, afterRead_on, on_frameContext, on_rxbuf, hf]

end

/-! ### The drain -/

/-- What the loop emits after one frame, `notes` being what it emits from there: an answer ends it (R150). -/
def onFrameNotes (notes : State → List (NoteKind × Message)) (o : FrameOutcome) (s : State) : List (NoteKind × Message) :=
  match o with
  | .answer _ => []
  | .consumed _ => notes s

theorem emits_onFrame {u : Aside} {notes : State → List (NoteKind × Message)} {goOn : State → Run Message}
    (h : Emits u notes goOn) : ∀ o, Emits u (onFrameNotes notes o) (onFrame goOn o)
  | .answer _ => emits_nil fun _ _ => rfl
  | .consumed _ => h

/-- An operation under VERBOSE = `b`, by its body run under any VERBOSE. -/
theorem transact_of_emits {α : Type} (f : α → Reply) {body : State → Run α} {notes : State → List (NoteKind × Message)}
    {b : Bool} (hb : Emits { verbose := b, busy := some true } notes body) (s : State) :
    transact f body { s with verbose := b } =
      .next (finish ((body s).2.reply f)
        (Aside.on { verbose := b, busy := some true } (s.notelog ++ if b then notes s else []) (body s).1)) :=
  congrArg (fun m : Run α => Host.Outcome.next (finish (m.2.reply f) m.1)) (hb s.notelog s)

/-- The end of a transaction writes only what the classifier does not read. -/
theorem finish_on (r : Reply) (u : Aside) (l : List (NoteKind × Message)) (s : State) :
    ∃ u' : Aside, finish r (u.on l s) = u'.on l s :=
  ⟨{ u with busy := some false, replies := some ((u.on l s).replies ++ [r]) }, rfl⟩

/-- `runNotes` by the body of CLS_STEP, where the rest of the run reads none of the values of an `Aside`. -/
theorem runNotes_succ_of_on {left : Nat} (hleft : ∀ (u : Aside) l s, runNotes left (u.on l s) = runNotes left s)
    (s : State) :
    runNotes (left + 1) s = stepNotes s ++ (clsStep s).notes (onFrameNotes (runNotes left)) := by
  have hexec : exec .clsStep s = .next (finish ((clsStep s).2.reply .frame) _) :=
    transact_of_emits .frame (emits_clsStep (u := { verbose := s.verbose, busy := some true })) s
  have htail : ∀ r u l t, runNotes left (finish r (Aside.on u l t)) = runNotes left t := fun r u l t => by
    obtain ⟨u', hfin⟩ := finish_on r u l t
    rw [hfin, hleft]
  simp only [runNotes, hexec, htail]
  obtain ⟨t, (k | m) | e⟩ := clsStep s <;> simp [consumedLast, Run.notes, onFrameNotes]

theorem runNotes_on (u : Aside) (l : List (NoteKind × Message)) (s : State) :
    ∀ left, runNotes left (u.on l s) = runNotes left s := by
  intro left
  induction left generalizing u l s with
  | zero => exact stepNotes_on l s
  | succ left ih =>
    rw [runNotes_succ_of_on ih, runNotes_succ_of_on ih, emits_clsStep l s, stepNotes_on]
    obtain ⟨t, (k | m) | e⟩ := clsStep s
    · simp [Run.notes, onFrameNotes, ih]
    · rfl
    · rfl

theorem runNotes_succ (left : Nat) (s : State) :
    runNotes (left + 1) s = stepNotes s ++ (clsStep s).notes (onFrameNotes (runNotes left)) :=
  runNotes_succ_of_on (fun u l s => runNotes_on u l s left) s

theorem runNotes_setDrainCnt (left n : Nat) (s : State) : runNotes left (setDrainCnt n s) = runNotes left s :=
  runNotes_on { verbose := s.verbose, drainCnt := some n } s.notelog s left

theorem setDrainCnt_on {u : Aside} (hu : u.drainCnt = none) (n : Nat) (l : List (NoteKind × Message)) (s : State) :
    setDrainCnt n (u.on l s) = u.on l (setDrainCnt n s) := by
  simp [Aside.on, setDrainCnt, hu]

/-- The drain emits what its steps emit (R150). Its bound reads DRAIN_CNT, so that stays. -/
theorem emits_drain {u : Aside} (hu : u.drainCnt = none) : ∀ left, Emits u (runNotes left) (drain left)
  | 0 => by
    have hbound : Emits u (fun _ => []) fun s => raise (α := Message) (.drainExhausted s.drainCnt) s :=
      emits_nil fun l s => by simp [Aside.on, raise, hu]
    refine (emits_clsStep.andThen (emits_onFrame hbound)).congr fun s => ?_
    obtain ⟨t, (k | m) | e⟩ := clsStep s <;> simp [Run.notes, onFrameNotes, runNotes]
  | left + 1 => by
    have hgoOn : Emits u (runNotes left) fun s => drain left (setDrainCnt (s.drainCnt + 1) s) := fun l s => by
      simp only [on_drainCnt, hu, Option.getD_none, setDrainCnt_on hu, emits_drain hu left l, runNotes_setDrainCnt]
    exact (emits_clsStep.andThen (emits_onFrame hgoOn)).congr fun s => (runNotes_succ left s).symm

theorem emits_clsRun {u : Aside} (hu : u.drainCnt = none) : Emits u (fun s => runNotes s.cfg.drainMax s) clsRun := by
  intro l s
  change drain s.cfg.drainMax (setDrainCnt 0 (u.on l s)) = _
  rw [setDrainCnt_on hu, emits_drain hu, runNotes_setDrainCnt]
  rfl

/-! ### The instructions -/

theorem exists_frame_of_fromRx : ∀ {i : Instr}, i.fromRx = true → ∃ f : Frame, i = f.toInstr
  | .hwResponse p1 p2 d c, _ => ⟨.hwResponse p1 p2 d c, rfl⟩
  | .hwRichResponse n d c, _ => ⟨.hwRichResponse n d c, rfl⟩
  | .statusUpdate i n d c, _ => ⟨.statusUpdate i n d c, rfl⟩
  | .answerLong i n d c, _ => ⟨.answerLong i n d c, rfl⟩
  | .answerShort i p1 p2 d c, _ => ⟨.answerShort i p1 p2 d c, rfl⟩

/-- A frame class as an operation is the class taken after its header (R148). -/
theorem exec_toInstr (f : Frame) (s : State) :
    exec f.toInstr s = transact .frame (fun s => takeFrame f (setHdr f.header s)) s := by
  cases f <;> rfl

theorem notesOf_toInstr (f : Frame) (s : State) : notesOf f.toInstr s = frameNotes f s := by
  cases f with
  | hwResponse p1 p2 d c => rfl
  | hwRichResponse n d c => rfl
  | statusUpdate i n d c => simp [notesOf, Frame.toInstr, frameNotes, noteEvents]
  | answerLong i n d c => simp [notesOf, Frame.toInstr, frameNotes, noteEvents]
  | answerShort i p1 p2 d c => simp [notesOf, Frame.toInstr, frameNotes, noteEvents]

/-- The body of a frame class emits what `notesOf` reads off the frame: neither HDR nor the lock is read. -/
theorem emits_frame {u : Aside} (f : Frame) :
    Emits u (notesOf f.toInstr) fun s => takeFrame f (setHdr f.header s) := by
  have h : Emits u (fun s => frameNotes f (setHdr f.header s)) fun s => takeFrame f (setHdr f.header s) :=
    fun l s => emits_takeFrame (u := u) f l (setHdr f.header s)
  refine h.congr fun s => ?_
  rw [notesOf_toInstr]
  exact frameNotes_congr f rfl rfl

/-- An operation under another VERBOSE leaves the same state but for VERBOSE and the events of its body. -/
theorem transact_verbose {α : Type} {f : α → Reply} {body : State → Run α} {notes : State → List (NoteKind × Message)}
    {s t : State} (hb : ∀ b, Emits { verbose := b, busy := some true } notes body) (ht : transact f body s = .next t)
    (b : Bool) :
    transact f body { s with verbose := b } =
      .next { t with verbose := b, notelog := s.notelog ++ if b then notes s else [] } := by
  have hs := transact_of_emits f (hb s.verbose) s
  obtain rfl := Host.Outcome.next.inj (ht.symm.trans hs)
  exact transact_of_emits f (hb b) s

/-- CLS_STEP, CLS_RUN and the frame classes under another VERBOSE (R214). -/
theorem exec_verbose {i : Instr} {s t : State} (hi : i = .clsStep ∨ i = .clsRun ∨ i.fromRx = true)
    (ht : exec i s = .next t) (b : Bool) :
    exec i { s with verbose := b } =
      .next { t with verbose := b, notelog := s.notelog ++ if b then notesOf i s else [] } := by
  obtain rfl | rfl | hf := hi
  · exact transact_verbose (fun _ => emits_clsStep) ht b
  · exact transact_verbose (fun _ => emits_clsRun rfl) ht b
  · obtain ⟨f, rfl⟩ := exists_frame_of_fromRx hf
    rw [exec_toInstr] at ht ⊢
    exact transact_verbose (fun _ => emits_frame f) ht b

/-- Settles O24: `exec_verbose` says what another VERBOSE changes; for the value VERBOSE has it says what NOTE_OUT gets. -/
theorem verboseChangesOnlyNotifications : Obligations.VerboseChangesOnlyNotifications := by
  refine ⟨fun on s => ⟨rfl, _, exec_crRd_three _, ?_⟩, fun i s t hi ht => ⟨fun hv => ?_, exec_verbose hi ht⟩⟩
  · rw [flagsWord_toNat]
    have := s.handler.toNat_lt
    change (s.handler.toNat + 2 * on.toNat) / 2 = on.toNat
    omega
  · have hsame := Host.Outcome.next.inj (ht.symm.trans (exec_verbose hi ht s.verbose))
    simpa [hv] using congrArg State.notelog hsame

end Sys2Proof.Machine
end

section
/-! ## Proofs of the host-sequence family: what an instruction sends (R226, R62) -/

namespace Sys2Proof.Machine

/-- Between the two states nothing was sent, or one frame of six bytes with the DEST and SRC of the first state, whose id was
pushed (R226). -/
def AtMostOneSend (s t : State) : Prop :=
  t.txlog = s.txlog ∨ ∃ (id : Word16) (p1 p2 d : Byte), s.dest = some d ∧
    t.txlog = s.txlog ++ requestBytes id p1 p2 d s.src ∧ t.hist = appendCapped s.hist id

/-- The body sends at most one such frame, however it ends. -/
def SendsAtMostOnce {α : Type} (body : State → Run α) : Prop := ∀ s, AtMostOneSend s (body s).1

/-! ### The frame and the push -/

/-- ENC_SHORT makes the six bytes of R226: the id's low byte, its high byte, and the other four fields as they are. -/
theorem encodeShort_eq_requestBytes (id : Word16) (p1 p2 dest source : Byte) :
    encodeShort id p1 p2 dest source = requestBytes id p1 p2 dest source := by
  have hlow : id.extractLsb' 0 8 = BitVec.ofNat 8 id.toNat :=
    BitVec.eq_of_toNat_eq (by rw [lowByte_toNat, BitVec.toNat_ofNat])
  have hhigh : id.extractLsb' 8 8 = BitVec.ofNat 8 (id.toNat / 256) :=
    BitVec.eq_of_toNat_eq (by rw [highByte_toNat, BitVec.toNat_ofNat, Nat.mod_eq_of_lt (by omega)])
  simp only [encodeShort, Header.bytes, Header.short, requestBytes, hlow, hhigh]

/-- The sequence of the history is read off RING, WP and CNT alone (R31). -/
theorem hist_congr {s t : State} (h : Group.history.same s t) : t.hist = s.hist := by
  obtain ⟨hring, hwp, hcnt⟩ := h
  simp only [State.hist, State.slot, hring, hwp, hcnt]

/-- The send of the sequences, to the configured destination. -/
theorem atMostOneSend_pushAndSend {s : State} {d : Byte} (hd : s.dest = some d) (id : Word16) (p1 p2 : Byte) :
    AtMostOneSend s (pushAndSend id p1 p2 d s) :=
  .inr ⟨id, p1, p2, d, hd, congrArg (s.txlog ++ ·) (encodeShort_eq_requestBytes id p1 p2 d s.src), pushHistory_hist id s⟩

/-- What runs after the send and writes neither TX nor the history sends nothing more. -/
theorem AtMostOneSend.keep {s t u : State} (h : AtMostOneSend s t) (htx : Group.tx.same t u)
    (hhist : Group.history.same t u) : AtMostOneSend s u := by
  change u.txlog = t.txlog at htx
  unfold AtMostOneSend
  rw [htx, hist_congr hhist]
  exact h

/-! ### Bodies -/

section
variable {α β : Type}

/-- A lookup writes nothing: the body goes on with what it finds, or ends there. -/
theorem sendsAtMostOnce_orRaise {o : State → Option α} {e : ErrorKind} {f : α → State → Run β}
    (hf : ∀ v s, o s = some v → AtMostOneSend s (f v s).1) :
    SendsAtMostOnce fun s => (orRaise (o s) e s).andThen f := by
  intro s
  dsimp only
  cases ho : o s with
  | none => exact .inl rfl
  | some v => exact hf v s ho

/-- Statements behind a body that may send leave TX and the history to it. -/
theorem SendsAtMostOnce.andThen {m : State → Run α} {f : α → State → Run β} (hm : SendsAtMostOnce m)
    (htx : ∀ v, Keeps .tx (f v)) (hhist : ∀ v, Keeps .history (f v)) :
    SendsAtMostOnce fun s => (m s).andThen f := by
  intro s
  obtain ⟨v, -, e⟩ | ⟨e, -, e'⟩ := andThen_cases (m s) f
  · simp only [e]
    exact (hm s).keep (htx v _) (hhist v _)
  · simp only [e']
    exact hm s

/-- A transaction sends what its body sends: the lock and the replies are in neither TX nor the history. -/
theorem SendsAtMostOnce.transact {f : α → Reply} {body : State → Run α} {s t : State} (hb : SendsAtMostOnce body)
    (h : transact f body s = .next t) : AtMostOneSend s t := by
  rw [transact_eq] at h
  cases h
  exact (hb { s with busy := true }).keep (same_finish _ _) (same_finish _ _)

/-- A transaction whose body does not write TX sends nothing. -/
theorem atMostOneSend_of_keeps {f : α → Reply} {body : State → Run α} {s t : State} (hb : Keeps .tx body)
    (h : transact f body s = .next t) : AtMostOneSend s t :=
  .inl (transact_keeps hb h)

end

/-! ### The sequences -/

/-- QUERY sends before CLS_RUN, which writes neither TX nor the history; the flush before it is in RX alone. -/
theorem sendsAtMostOnce_runQuery (id : Word16) (p1 p2 : Byte) : SendsAtMostOnce (runQuery id p1 p2) := by
  refine sendsAtMostOnce_orRaise (o := State.dest) fun d s hd => ?_
  have hsend : AtMostOneSend s (pushAndSend id p1 p2 d (rxFlush s)) :=
    atMostOneSend_pushAndSend (s := rxFlush s) hd id p1 p2
  exact hsend.keep (keeps_clsRun (by decide) _) (keeps_clsRun (by decide) _)

theorem sendsAtMostOnce_runWrite (id : Word16) (p1 p2 : Byte) : SendsAtMostOnce (runWrite id p1 p2) :=
  sendsAtMostOnce_orRaise (o := State.dest) fun _ _ hd => atMostOneSend_pushAndSend hd id p1 p2

theorem sendsAtMostOnce_runGetHwInfo : SendsAtMostOnce runGetHwInfo := by
  have hrest : ∀ {g}, g ≠ Group.cache → ∀ m, Keeps g fun s => (longBytes m s).andThen fun p s => decodeAndLatch p s :=
    fun hg m => keeps_andThen (keeps_longBytes m) fun p => keeps_decodeAndLatch p hg
  exact (sendsAtMostOnce_runQuery _ _ _).andThen (hrest (by decide)) (hrest (by decide))

/-- Under both readings of SETCH_ACK (R233). -/
theorem sendsAtMostOnce_runSetChannelState (channel : Nat) (enabled : Bool) :
    SendsAtMostOnce (runSetChannelState channel enabled) := by
  refine sendsAtMostOnce_orRaise (o := fun _ => channelIdent channel) fun ident s _ => ?_
  cases s.cfg.setchAck with
  | write => exact sendsAtMostOnce_runWrite _ _ _ s
  | query => exact (sendsAtMostOnce_runQuery _ _ _).andThen (fun _ => keeps_ret ()) (fun _ => keeps_ret ()) s

theorem sendsAtMostOnce_runGetChannelState (channel : Nat) : SendsAtMostOnce (runGetChannelState channel) := by
  have hrest : ∀ {g} m, Keeps g fun s =>
      (shortParam2 m s).andThen fun b s => orRaise (decodeChannelState b) (.badChannelState b) s :=
    fun m => keeps_andThen (keeps_shortParam2 m) fun b => keeps_orRaise _ _
  exact sendsAtMostOnce_orRaise (o := fun _ => channelIdent channel) fun ident s _ =>
    (sendsAtMostOnce_runQuery _ _ _).andThen hrest hrest s

/-! ### The instructions -/

/-- An operation that only writes its registers keeps what the write keeps. -/
theorem keeps_update {g : Group} {u : State → State} (hu : ∀ s, g.same s (u s)) : Keeps g fun s => ret () (u s) := hu

/-- INIT resets and writes registers; TX is of the environment (R291). -/
theorem keeps_initBlock_tx (source destination : Option Byte) : Keeps .tx (initBlock source destination) := by
  intro s
  cases destination <;> rfl

/-- A received frame sends nothing. -/
theorem exec_toInstr_atMostOneSend {f : Frame} {s t : State} (h : exec f.toInstr s = .next t) : AtMostOneSend s t := by
  rw [exec_toInstr] at h
  have htake : Keeps .tx (takeFrame f) := keeps_takeFrame f (by decide)
  exact atMostOneSend_of_keeps (fun s => htake (setHdr f.header s)) h

/-- The five sequences send as their bodies do; every other instruction keeps TX. -/
theorem exec_atMostOneSend {i : Instr} {s t : State} (h : exec i s = .next t) : AtMostOneSend s t := by
  cases i with
  | query id p1 p2 => exact (sendsAtMostOnce_runQuery id p1 p2).transact h
  | write id p1 p2 => exact (sendsAtMostOnce_runWrite id p1 p2).transact h
  | getHwInfo => exact sendsAtMostOnce_runGetHwInfo.transact h
  | setChannelState channel enabled => exact (sendsAtMostOnce_runSetChannelState channel enabled).transact h
  | getChannelState channel => exact (sendsAtMostOnce_runGetChannelState channel).transact h
  | reserved => exact atMostOneSend_of_keeps (keeps_raise _) h
  | encShort id p1 p2 dest source => exact atMostOneSend_of_keeps (keeps_ret _) h
  | decLong b => exact atMostOneSend_of_keeps (keeps_orRaise _ _) h
  | decShort b => exact atMostOneSend_of_keeps (keeps_orRaise _ _) h
  | clsStep => exact atMostOneSend_of_keeps (keeps_clsStep (by decide)) h
  | clsRun => exact atMostOneSend_of_keeps (keeps_clsRun (by decide)) h
  | histPush id =>
    exact atMostOneSend_of_keeps (keeps_update (u := pushHistory id) fun s => same_pushHistory s (by decide)) h
  | histLast => exact atMostOneSend_of_keeps (fun s => same_refl _ s) h
  | hwiDecode payload => exact atMostOneSend_of_keeps (keeps_decodeIdentity payload) h
  | modelLookup serial => exact atMostOneSend_of_keeps (fun s => same_refl _ s) h
  | hwiLatch payload => exact atMostOneSend_of_keeps (keeps_decodeAndLatch payload (by decide)) h
  | init source destination => exact atMostOneSend_of_keeps (keeps_initBlock_tx source destination) h
  | setSuid v => exact atMostOneSend_of_keeps (keeps_update (u := fun s => { s with suid := v }) fun _ => rfl) h
  | setHandler present =>
    exact atMostOneSend_of_keeps (keeps_update (u := fun s => { s with handler := present }) fun _ => rfl) h
  | setVerbose on =>
    exact atMostOneSend_of_keeps (keeps_update (u := fun s => { s with verbose := on }) fun _ => rfl) h
  | crRd n => exact atMostOneSend_of_keeps (fun s => keeps_orRaise _ _ s) h
  | hwResponse p1 p2 d c => exact exec_toInstr_atMostOneSend (f := .hwResponse p1 p2 d c) h
  | hwRichResponse l d c => exact exec_toInstr_atMostOneSend (f := .hwRichResponse l d c) h
  | statusUpdate id l d c => exact exec_toInstr_atMostOneSend (f := .statusUpdate id l d c) h
  | answerLong id l d c => exact exec_toInstr_atMostOneSend (f := .answerLong id l d c) h
  | answerShort id p1 p2 d c => exact exec_toInstr_atMostOneSend (f := .answerShort id p1 p2 d c) h

/-- Settles O50: `AtMostOneSend` is the statement's relation, shown of every instruction through its body. -/
theorem everySentFrameIsShortAndAddressed : Obligations.EverySentFrameIsShortAndAddressed :=
  fun _ _ _ h => exec_atMostOneSend h

end Sys2Proof.Machine
end

section
/-! ## Proofs of the whole-machine family: the single writes that every instruction is made of -/

namespace Sys2Proof.Machine

/-! ### One update, field by field -/

/-- An arrival changes RXBUF and what is still to arrive. -/
theorem deliver_eq (s : State) :
    deliver s = { s with rxbuf := (deliver s).rxbuf, incoming := (deliver s).incoming } := by
  unfold deliver
  split <;> rfl

/-- A read in the classifier changes the RX stream, and leaves SEQ at IDLE. -/
theorem afterRead_eq (n : Nat) (s : State) :
    afterRead n s = { s with rxbuf := (afterRead n s).rxbuf, incoming := (afterRead n s).incoming, seq := .idle } := by
  unfold afterRead atRead
  split
  · rfl
  · rw [deliver_eq]

theorem notify_eq (k : NoteKind) (m : Message) (s : State) :
    notify k m s = { s with notelog := s.notelog ++ if s.verbose then [(k, m)] else [] } := by
  unfold notify
  split
  · rfl
  · rw [List.append_nil]

/-! ### The writes -/

/-- One write of an operation's body. `ok` is what makes the classifier's status updates those of step 4: that a frame class
that runs as an instruction has an id past the notifications (R149). -/
inductive Write (ok : Prop) : State → State → Prop
  | read (n : Nat) (s : State) : Write ok s (afterRead n s)
  | flush (s : State) : Write ok s (rxFlush s)
  | header (h : Header) (s : State) : Write ok s (setHdr h s)
  | payload {d : Bytes} (s : State) (h : d.length ≤ 65535) : Write ok s (setPbuf d s)
  | note {k : NoteKind} {m : Message} (s : State) (h : noteOk (k, m) = true) : Write ok s (notify k m s)
  | status {m : Message} (s : State) (h : ok → statusOk m = true) : Write ok s (emitStatus m s)
  | count {n : Nat} (s : State) (h : n ≤ s.cfg.drainMax) : Write ok s (setDrainCnt n s)
  | push (id : Word16) (s : State) : Write ok s (pushHistory id s)
  | send {b : Bytes} (s : State) (h : b.length = 6) : Write ok s (txWrite b s)
  | latch (p : Bytes) (s : State) : Write ok s (latchIdentity (unpackIdentity s.cfg p) s)
  | configure (src : Byte) (dest : Option Byte) (suid : Option Word16) (handler verbose : Bool) (s : State) :
    Write ok s { s with src := src, dest := dest, suid := suid, handler := handler, verbose := verbose }
  | reset (s : State) : Write ok s { resetBlock s with busy := s.busy }

/-- Write after write. -/
abbrev Writes (ok : Prop) : State → State → Prop := Relation.ReflTransGen (Write ok)

/-- What every single write does, a series of writes does. -/
theorem Writes.induct {ok : Prop} {R : State → State → Prop} (hrefl : ∀ s, R s s)
    (htrans : ∀ {s t u}, R s t → R t u → R s u) (hwrite : ∀ {s t}, Write ok s t → R s t) {s t : State}
    (h : Writes ok s t) : R s t := by
  induction h with
  | refl => exact hrefl s
  | tail _ hw ih => exact htrans ih (hwrite hw)

/-- The body is a series of writes, however it ends. -/
def Does {α : Type} (ok : Prop) (body : State → Run α) : Prop := ∀ s, Writes ok s (body s).1

section
variable {α β : Type} {ok : Prop}

theorem does_ret (v : α) : Does ok (ret v) := fun _ => .refl

theorem does_orRaise (o : State → Option α) (e : ErrorKind) : Does ok fun s => orRaise (o s) e s := fun s => by
  rw [orRaise_fst]

theorem Does.andThen {m : State → Run α} {f : α → State → Run β} (hm : Does ok m) (hf : ∀ v, Does ok (f v)) :
    Does ok fun s => (m s).andThen f := by
  intro s
  obtain ⟨v, -, e⟩ | ⟨e, -, e'⟩ := andThen_cases (m s) f
  · simp only [e]
    exact (hm s).trans (hf v _)
  · simp only [e']
    exact hm s

/-- A body that is one write. -/
theorem does_write {u : State → State} (hu : ∀ s, Write ok s (u s)) (v : α) : Does ok fun s => ret v (u s) :=
  fun s => .single (hu s)

/-! ### The bodies -/

theorem does_readHeader : Does ok readHeader := by
  intro s
  rw [readHeader_eq]
  split
  · exact (Relation.ReflTransGen.single (.read 6 s)).tail (.header _ _)
  · split <;> exact .single (.read 6 s)

/-- What follows a payload read gets as many bytes as were asked for (R147), and PBUF can hold that many (R23). -/
theorem does_payloadThen {l : Word16} {k : Bytes → State → Run β} (hk : ∀ d, d.length = l.toNat → Does ok (k d)) :
    Does ok fun s => (readPayload l s).andThen k := by
  intro s
  dsimp only
  rw [readPayload_eq]
  split
  · exact .single (.read _ s)
  · next h =>
    have hl : ((atRead l.toNat s).rxbuf.take l.toNat).length = l.toNat := by rw [List.length_take]; omega
    have hmax : ((atRead l.toNat s).rxbuf.take l.toNat).length ≤ 65535 := by have := l.isLt; omega
    rw [andThen_ret]
    exact ((Relation.ReflTransGen.single (.read _ s)).tail (.payload _ hmax)).trans (hk _ hl _)

/-- A frame of each class. -/
theorem does_takeFrame {f : Frame} (hf : ok → f.toInstr.wf = true) : Does ok (takeFrame f) := by
  cases f with
  | hwResponse p1 p2 d c => exact does_write (fun s => .note s (by simp [noteOk, shortMessage])) _
  | hwRichResponse l d c =>
    exact does_payloadThen fun data hl =>
      does_write (fun s => .note s (by simp [noteOk, longMessage, Message.sized, hl])) _
  | statusUpdate i l d c =>
    refine does_payloadThen fun data hl s => ?_
    have hs : ok → statusOk (longMessage i l d c data) = true := fun h => by
      simpa [statusOk, longMessage, Message.sized, hl, Frame.toInstr, Instr.wf] using hf h
    split
    · exact .single (.status s hs)
    · exact .refl
  | answerLong i l d c => exact does_payloadThen fun data _ => does_ret _
  | answerShort i p1 p2 d c => exact does_ret _

/-- Steps 4 and 5 get no header with the id of a notification (R149). -/
theorem wf_classify (c : FrameContext) (h : Header) : (classify c h).toInstr.wf = true := by
  unfold classify
  split
  · rfl
  next h0 =>
    split
    · rfl
    next h1 =>
      have hid : idPastNotifications h.id = true := by rw [idPastNotifications, decide_eq_true h0, decide_eq_true h1]; rfl
      split
      · exact hid
      · split <;> exact hid

theorem does_clsStep : Does ok clsStep :=
  does_readHeader.andThen fun h _ => does_takeFrame (fun _ => wf_classify _ h) _

/-- The drain counts no further than DRAIN_MAX (R37, R151): what is left of the bound falls as DRAIN_CNT rises. -/
theorem does_drain : ∀ (left : Nat) (s : State), s.drainCnt + left ≤ s.cfg.drainMax → Writes ok s (drain left s).1
  | 0, s, _ => by
    rw [drain_zero]
    refine does_clsStep.andThen (f := onFrame fun s => raise (.drainExhausted s.drainCnt) s) (fun o s => ?_) s
    cases o <;> exact .refl
  | left + 1, s, h => by
    have hcnt : (clsStep s).1.drainCnt = s.drainCnt := keeps_clsStep (g := .drainCount) (by decide) s
    have hcfg : (clsStep s).1.cfg = s.cfg := keeps_clsStep (g := .params) (by decide) s
    rw [drain_succ]
    obtain ⟨o, -, e⟩ | ⟨e, -, e'⟩ :=
      andThen_cases (clsStep s) (onFrame fun s => drain left (setDrainCnt (s.drainCnt + 1) s))
    · rw [e]
      cases o with
      | answer m => exact does_clsStep s
      | consumed c =>
        refine ((does_clsStep s).tail (.count _ ?_)).trans (does_drain left _ ?_)
        · rw [hcnt, hcfg]; omega
        · rw [setDrainCnt_drainCnt, setDrainCnt_cfg, hcnt, hcfg]; omega
    · rw [e']
      exact does_clsStep s

theorem does_clsRun : Does ok clsRun := fun s =>
  .trans (.single (.count s (Nat.zero_le _))) (does_drain _ _ (by simp))

theorem does_pushAndSend (id : Word16) (p1 p2 d : Byte) (s : State) : Writes ok s (pushAndSend id p1 p2 d s) :=
  .tail (.single (.push id s)) (.send _ rfl)

theorem does_runQuery (id : Word16) (p1 p2 : Byte) : Does ok (runQuery id p1 p2) :=
  (does_orRaise State.dest _).andThen fun d s =>
    ((Relation.ReflTransGen.single (.flush s)).trans (does_pushAndSend id p1 p2 d _)).trans (does_clsRun _)

theorem does_runWrite (id : Word16) (p1 p2 : Byte) : Does ok (runWrite id p1 p2) :=
  (does_orRaise State.dest _).andThen fun d s => does_pushAndSend id p1 p2 d s

theorem does_decodeIdentity (p : Bytes) : Does ok (decodeIdentity p) := fun s => by
  unfold decodeIdentity
  split <;> exact .refl

theorem does_decodeAndLatch (p : Bytes) : Does ok (decodeAndLatch p) := by
  intro s
  unfold decodeAndLatch decodeIdentity
  split
  · exact .single (.latch p s)
  · exact .refl

theorem does_longBytes (m : Message) : Does ok (longBytes m) := fun s => by
  unfold longBytes
  split <;> exact .refl

theorem does_shortParam2 (m : Message) : Does ok (shortParam2 m) := fun s => by
  unfold shortParam2
  split <;> exact .refl

theorem does_runGetHwInfo : Does ok runGetHwInfo :=
  (does_runQuery _ _ _).andThen fun m => (does_longBytes m).andThen does_decodeAndLatch

theorem does_runSetChannelState (channel : Nat) (enabled : Bool) : Does ok (runSetChannelState channel enabled) := by
  refine (does_orRaise (fun _ => channelIdent channel) _).andThen fun ident s => ?_
  cases s.cfg.setchAck with
  | write => exact does_runWrite _ _ _ s
  | query => exact (does_runQuery _ _ _).andThen (fun _ => does_ret ()) s

theorem does_runGetChannelState (channel : Nat) : Does ok (runGetChannelState channel) :=
  (does_orRaise (fun _ => channelIdent channel) _).andThen fun _ =>
    (does_runQuery _ _ _).andThen fun m => (does_shortParam2 m).andThen fun _ => does_orRaise _ _

/-! ### The instructions -/

/-- The instruction answers a next state: writes between taking the lock and the end of the transaction. -/
def Completes (ok : Prop) (s : State) (o : Host.Outcome State Fault Refusal) : Prop :=
  ∃ u r, Writes ok { s with busy := true } u ∧ o = .next (finish r u)

theorem Does.completes {body : State → Run α} (hb : Does ok body) (f : α → Reply) (s : State) :
    Completes ok s (transact f body s) :=
  ⟨_, _, hb _, transact_eq f body s⟩

/-- INIT frees the lock in its reset, as the end of its transaction does again: so the reset counts as one that keeps it. -/
theorem completes_init (source destination : Option Byte) (s : State) :
    Completes ok s (execInit source destination s) := by
  have hreset : Writes ok { s with busy := true } { resetBlock s with busy := true } := .single (.reset _)
  cases destination with
  | none => exact ⟨{ setSrc source (resetBlock s) with busy := true }, .error .noDestination,
      hreset.tail (.configure _ _ _ _ _ _), rfl⟩
  | some d => exact ⟨{ setDest d (setSrc source (resetBlock s)) with busy := true }, .done,
      hreset.tail (.configure _ _ _ _ _ _), rfl⟩

end

/-- A frame class, whose status update is one of step 4 where the instruction is well-formed. -/
theorem completes_frame {ok : Prop} (f : Frame) (hf : ok → f.toInstr.wf = true) (s : State) :
    Completes ok s (exec f.toInstr s) := by
  rw [exec_toInstr]
  have hbody : Does ok fun s => takeFrame f (setHdr f.header s) := fun s =>
    (Relation.ReflTransGen.single (.header f.header s)).trans (does_takeFrame hf _)
  exact hbody.completes _ _

/-- Every instruction completes, as a series of writes. -/
theorem exec_completes (i : Instr) (s : State) : Completes (i.fromRx = true → i.wf = true) s (exec i s) := by
  cases i with
  | reserved => exact (does_orRaise (fun _ => (none : Option Unit)) _).completes _ _
  | encShort id p1 p2 dest source => exact (does_ret _).completes _ _
  | decLong b => exact (does_orRaise (fun _ => Header.ofBytes? b) _).completes _ _
  | decShort b => exact (does_orRaise (fun _ => Header.ofBytes? b) _).completes _ _
  | clsStep => exact does_clsStep.completes _ _
  | clsRun => exact does_clsRun.completes _ _
  | histPush id => exact (does_write (.push id) _).completes _ _
  | histLast => exact Does.completes (fun _ => .refl) _ _
  | hwiDecode payload => exact (does_decodeIdentity payload).completes _ _
  | modelLookup serial => exact Does.completes (fun _ => .refl) _ _
  | hwiLatch payload => exact (does_decodeAndLatch payload).completes _ _
  | init source destination => exact completes_init source destination s
  | setSuid v => exact (does_write (fun s => .configure s.src s.dest v s.handler s.verbose s) _).completes _ _
  | setHandler present => exact (does_write (fun s => .configure s.src s.dest s.suid present s.verbose s) _).completes _ _
  | setVerbose on => exact (does_write (fun s => .configure s.src s.dest s.suid s.handler on s) _).completes _ _
  | crRd n => exact (does_orRaise (fun s => s.controlRegister n) _).completes _ _
  | hwResponse p1 p2 d c => exact completes_frame (.hwResponse p1 p2 d c) (fun h => h rfl) s
  | hwRichResponse l d c => exact completes_frame (.hwRichResponse l d c) (fun h => h rfl) s
  | statusUpdate i l d c => exact completes_frame (.statusUpdate i l d c) (fun h => h rfl) s
  | answerLong i l d c => exact completes_frame (.answerLong i l d c) (fun h => h rfl) s
  | answerShort i p1 p2 d c => exact completes_frame (.answerShort i p1 p2 d c) (fun h => h rfl) s
  | query id p1 p2 => exact (does_runQuery id p1 p2).completes _ _
  | write id p1 p2 => exact (does_runWrite id p1 p2).completes _ _
  | getHwInfo => exact does_runGetHwInfo.completes _ _
  | setChannelState channel enabled => exact (does_runSetChannelState channel enabled).completes _ _
  | getChannelState channel => exact (does_runGetChannelState channel).completes _ _

end Sys2Proof.Machine
end

section
/-! ## Proofs of the whole-machine family: what is kept, and the invariant -/

namespace Sys2Proof.Machine

/-! ### Groups of state (O46) -/

section
variable {g : Group}

theorem same_resetBlock (hg : g ∉ initWrites) (s : State) : g.same s (resetBlock s) := by
  cases g <;> simp_all [Group.same, initWrites]

theorem same_setSrc (hg : g ≠ .src) (o : Option Byte) (s : State) : g.same s (setSrc o s) := by
  cases g <;> simp_all [Group.same]

theorem same_setDest (hg : g ≠ .dest) (d : Byte) (s : State) : g.same s (setDest d s) := by
  cases g <;> simp_all [Group.same]

theorem keeps_initBlock (source destination : Option Byte) (hg : g ∉ initWrites) :
    Keeps g (initBlock source destination) := by
  have hsrc : g ≠ .src := by rintro rfl; simp [initWrites] at hg
  have hdest : g ≠ .dest := by rintro rfl; simp [initWrites] at hg
  intro s
  have hset := same_trans (same_resetBlock hg s) (same_setSrc hsrc source _)
  cases destination with
  | none => exact hset
  | some d => exact same_trans hset (same_setDest hdest d _)

theorem keeps_runGetHwInfo (hg : g ∉ .cache :: .history :: .tx :: clsRunWrites) : Keeps g runGetHwInfo :=
  keeps_andThen (keeps_runQuery _ _ _ (List.not_mem_of_not_mem_cons hg)) fun m =>
    keeps_andThen (keeps_longBytes m) fun p => keeps_decodeAndLatch p (List.ne_of_not_mem_cons hg)

theorem keeps_runSetChannelState (channel : Nat) (enabled : Bool) (hg : g ∉ .history :: .tx :: clsRunWrites) :
    Keeps g (runSetChannelState channel enabled) := by
  have hwrite : g ∉ [Group.history, .tx] := fun h => hg (by simp_all)
  refine keeps_andThen (keeps_orRaise _ _) fun ident s => ?_
  cases s.cfg.setchAck with
  | write => exact keeps_runWrite _ _ _ hwrite s
  | query => exact keeps_andThen (keeps_runQuery _ _ _ hg) (fun _ => keeps_ret ()) s

theorem keeps_runGetChannelState (channel : Nat) (hg : g ∉ .history :: .tx :: clsRunWrites) :
    Keeps g (runGetChannelState channel) :=
  keeps_andThen (keeps_orRaise _ _) fun _ => keeps_andThen (keeps_runQuery _ _ _ hg) fun m =>
    keeps_andThen (keeps_shortParam2 m) fun _ => keeps_orRaise _ _

/-- A frame class runs after HDR has been written. -/
theorem exec_frame_same {f : Frame} {s t : State} (hh : g ≠ .header) (hf : Keeps g (takeFrame f))
    (h : exec f.toInstr s = .next t) : g.same s t := by
  rw [exec_toInstr] at h
  exact transact_keeps (fun s => same_trans (same_setHdr s hh) (hf _)) h

/-- An instruction keeps every group that is not among those it may write. -/
theorem exec_same {i : Instr} {s t : State} (hg : g ∉ instrWrites i) (h : exec i s = .next t) : g.same s t := by
  cases i with
  | reserved => exact transact_keeps (keeps_raise _) h
  | encShort id p1 p2 dest source => exact transact_keeps (keeps_ret _) h
  | decLong b => exact transact_keeps (keeps_orRaise _ _) h
  | decShort b => exact transact_keeps (keeps_orRaise _ _) h
  | clsStep => exact transact_keeps (keeps_clsStep hg) h
  | clsRun => exact transact_keeps (keeps_clsRun hg) h
  | histPush id =>
    exact transact_keeps (keeps_update fun s => same_pushHistory s (List.ne_of_not_mem_cons hg)) h
  | histLast => exact transact_keeps (fun s => same_refl g s) h
  | hwiDecode payload => exact transact_keeps (keeps_decodeIdentity payload) h
  | modelLookup serial => exact transact_keeps (fun s => same_refl g s) h
  | hwiLatch payload => exact transact_keeps (keeps_decodeAndLatch payload (List.ne_of_not_mem_cons hg)) h
  | init source destination => exact transact_keeps (keeps_initBlock source destination hg) h
  | setSuid v =>
    refine transact_keeps (keeps_update (u := fun s => { s with suid := v }) fun s => ?_) h
    cases g <;> simp_all [Group.same, instrWrites]
  | setHandler present =>
    refine transact_keeps (keeps_update (u := fun s => { s with handler := present }) fun s => ?_) h
    cases g <;> simp_all [Group.same, instrWrites]
  | setVerbose on =>
    refine transact_keeps (keeps_update (u := fun s => { s with verbose := on }) fun s => ?_) h
    cases g <;> simp_all [Group.same, instrWrites]
  | crRd n => exact transact_keeps (fun s => keeps_orRaise _ _ s) h
  | hwResponse p1 p2 d c =>
    have hnotes := List.ne_of_not_mem_cons (List.not_mem_of_not_mem_cons hg)
    exact exec_frame_same (f := .hwResponse p1 p2 d c) (List.ne_of_not_mem_cons hg)
      (keeps_takeHwResponse p1 p2 d c hnotes) h
  | hwRichResponse l d c =>
    exact exec_frame_same (f := .hwRichResponse l d c) (List.ne_of_not_mem_cons hg)
      (keeps_takeHwRichResponse l d c (List.not_mem_of_not_mem_cons hg)) h
  | statusUpdate i l d c =>
    exact exec_frame_same (f := .statusUpdate i l d c) (List.ne_of_not_mem_cons hg)
      (keeps_takeStatusUpdate i l d c (List.not_mem_of_not_mem_cons hg)) h
  | answerLong i l d c =>
    exact exec_frame_same (f := .answerLong i l d c) (List.ne_of_not_mem_cons hg)
      (keeps_takeAnswerLong i l d c (List.not_mem_of_not_mem_cons hg)) h
  | answerShort i p1 p2 d c =>
    exact exec_frame_same (f := .answerShort i p1 p2 d c) (List.ne_of_not_mem_cons hg) (keeps_ret _) h
  | query id p1 p2 => exact transact_keeps (keeps_runQuery id p1 p2 hg) h
  | write id p1 p2 => exact transact_keeps (keeps_runWrite id p1 p2 hg) h
  | getHwInfo => exact transact_keeps (keeps_runGetHwInfo hg) h
  | setChannelState channel enabled => exact transact_keeps (keeps_runSetChannelState channel enabled hg) h
  | getChannelState channel => exact transact_keeps (keeps_runGetChannelState channel hg) h

end

/-- Settles O46: each body keeps what its statements keep, and each statement keeps what its rule does not name. -/
theorem instructionsWriteOnlyTheirGroups : Obligations.InstructionsWriteOnlyTheirGroups :=
  fun _ _ _ _ h hg => exec_same hg h

/-! ### Replies, the RX stream and the event ports (O45, O49, O51) -/

/-- No write of a body touches the lock, the requests or the replies: the transaction alone frees and hands back. -/
theorem Write.lock {ok : Prop} {s t : State} (w : Write ok s t) :
    t.busy = s.busy ∧ t.requests = s.requests ∧ t.replies = s.replies := by
  cases w <;> simp

theorem Writes.lock {ok : Prop} {s t : State} (h : Writes ok s t) :
    t.busy = s.busy ∧ t.requests = s.requests ∧ t.replies = s.replies :=
  h.induct (R := fun s t => t.busy = s.busy ∧ t.requests = s.requests ∧ t.replies = s.replies)
    (fun _ => ⟨rfl, rfl, rfl⟩) (fun ⟨b, q, r⟩ ⟨b', q', r'⟩ => ⟨b'.trans b, q'.trans q, r'.trans r⟩) Write.lock

/-- Settles O45: an instruction is a series of writes, none of them in the replies, and one end of its transaction. -/
theorem everyInstructionRepliesOnce : Obligations.EveryInstructionRepliesOnce := by
  intro i s
  obtain ⟨u, r, hw, h⟩ := exec_completes i s
  obtain ⟨-, -, hr⟩ := hw.lock
  exact ⟨finish r u, r, h, by rw [finish_replies, hr], finish_busy r u⟩

/-- What the RX stream holds and will receive. -/
def State.stream (s : State) : Bytes := s.rxbuf ++ s.incoming.flatten

/-- A write takes bytes off the front of the stream, if any: as many as a read asks for, or all that is buffered. -/
theorem Write.stream {ok : Prop} {s t : State} (w : Write ok s t) : t.stream <:+ s.stream := by
  cases w with
  | read n =>
    have hdrop : (afterRead n s).stream <:+ (atRead n s).rxbuf ++ (atRead n s).incoming.flatten :=
      ⟨(atRead n s).rxbuf.take n, by simp [State.stream, afterRead, ← List.append_assoc]⟩
    rwa [atRead_stream] at hdrop
  | flush => exact List.suffix_append _ _
  | _ => simp [State.stream]

/-- Settles O49: no write adds to the front of the stream, or to its end what was not to arrive. -/
theorem rxIsConsumedFromTheFront : Obligations.RxIsConsumedFromTheFront := by
  intro i s t h
  obtain ⟨u, r, hw, h'⟩ := exec_completes i s
  obtain rfl := Host.Outcome.next.inj (h.symm.trans h')
  obtain ⟨taken, e⟩ : u.stream <:+ s.stream :=
    hw.induct (R := fun s t => t.stream <:+ s.stream) (fun _ => List.suffix_refl _) (fun a b => b.trans a) Write.stream
  exact ⟨taken, e.symm⟩

theorem Write.events {ok : Prop} {s t : State} (w : Write ok s t) :
    s.notelog <+: t.notelog ∧ s.statuslog <+: t.statuslog := by
  cases w <;> simp

/-- Settles O51: a write of an event port appends to it. -/
theorem eventLogsOnlyGrow : Obligations.EventLogsOnlyGrow := by
  intro i s t h
  obtain ⟨u, r, hw, h'⟩ := exec_completes i s
  obtain rfl := Host.Outcome.next.inj (h.symm.trans h')
  exact hw.induct (R := fun s t => s.notelog <+: t.notelog ∧ s.statuslog <+: t.statuslog)
    (fun _ => by simp) (fun ⟨a, b⟩ ⟨c, d⟩ => ⟨a.trans c, b.trans d⟩) Write.events

/-! ### The invariant (O52, O53) -/

/-- The invariant but for the lock, which is taken while an operation runs. -/
def Settled (s : State) : Prop := State.Inv { s with busy := false }

/-- The cache write keeps the cache consistent: the key is the serial number's, where the table has a row under it (R196). -/
theorem cacheOk_latchIdentity {c : Config} {p : Bytes} {s : State} {k : IdCache}
    (h : (latchIdentity (unpackIdentity c p) s).ident = some k) : cacheOk c k = true := by
  rw [latchIdentity_ident] at h
  cases h
  have hmodel : (unpackIdentity c p).model = lookupModel c.modelTable (unpackIdentity c p).serialNumber := rfl
  rw [hmodel]
  cases hl : lookupModel c.modelTable (unpackIdentity c p).serialNumber with
  | none => simp [cacheOk, hl]
  | some m =>
    obtain ⟨q, hq, hrow, hkey⟩ := lookupModel_some hl
    simp only [cacheOk, hq, Option.map_some, hkey, hrow]
    simp

/-- A push moves WP and CNT on together until the ring is full (R171). -/
theorem pushHistory_inStep {s : State} (id : Word16) (h : s.cnt.val < 20 → s.wp.val = s.cnt.val) :
    (pushHistory id s).cnt.val < 20 → (pushHistory id s).wp.val = (pushHistory id s).cnt.val := by
  rw [pushHistory_cnt, pushHistory_wp]
  have := s.cnt.isLt
  split <;> omega

theorem Write.settled {ok : Prop} {s t : State} (hok : ok) (w : Write ok s t) (h : Settled s) : Settled t := by
  cases w with
  | read n => rw [afterRead_eq]; exact { h with seq := rfl }
  | flush => exact { h with }
  | header x => exact { h with }
  | payload _ hd => exact { h with pbuf := hd }
  | note _ hn =>
    rw [notify_eq]
    refine { h with notelog := fun e he => ?_ }
    obtain he | he := List.mem_append.mp he
    · exact h.notelog e he
    · split at he
      · rw [List.mem_singleton.mp he]; exact hn
      · cases he
  | status _ hs =>
    refine { h with statuslog := fun m hm => ?_ }
    obtain hm | hm := List.mem_append.mp hm
    · exact h.statuslog m hm
    · rw [List.mem_singleton.mp hm]; exact hs hok
  | count _ hn => exact { h with drainCnt := hn }
  | push id => exact { h with ring := pushHistory_inStep id h.ring }
  | send _ hb =>
    have htx := h.txlog
    refine { h with txlog := ?_ }
    dsimp only at htx ⊢
    rw [txWrite_txlog, List.length_append, hb]
    omega
  | latch p => exact { h with ident := fun k hk => cacheOk_latchIdentity (s := s) hk }
  | configure => exact { h with }
  | reset => exact
    { h with seq := rfl, drainCnt := Nat.zero_le _, pbuf := Nat.zero_le _, ring := fun _ => rfl, ident := nofun }

theorem Writes.settled {ok : Prop} {s t : State} (hok : ok) (h : Writes ok s t) : Settled s → Settled t :=
  h.induct (R := fun s t => Settled s → Settled t) (fun _ => id) (fun a b => b ∘ a) (Write.settled hok)

/-- An instruction keeps the invariant, a frame class where it is well-formed. -/
theorem exec_inv {i : Instr} {s t : State} (hi : i.fromRx = true → i.wf = true) (hs : s.Inv) (h : exec i s = .next t) : t.Inv := by
  obtain ⟨u, r, hw, h'⟩ := exec_completes i s
  obtain rfl := Host.Outcome.next.inj (h.symm.trans h')
  have hstart : Settled { s with busy := true } := { hs with busy := rfl }
  exact { hw.settled hi hstart with }

theorem deliver_inv {s : State} (hs : s.Inv) : (deliver s).Inv := by
  rw [deliver_eq]
  exact { hs with }

/-- A request read from the host port takes the front of the list, and is no frame class. -/
theorem step_cases {s t : State} (h : step s = .next t) :
    t = deliver s ∨ ∃ i r rest tail, s.busy = false ∧ s.requests = r :: rest ∧ decodeRequest r = .ok (i, tail) ∧
      i.fromRx = false ∧ exec i (takeRequest rest s) = .next t := by
  unfold step at h
  split at h
  · exact .inl (Host.Outcome.next.inj h).symm
  next hb =>
    split at h
    · exact .inl (Host.Outcome.next.inj h).symm
    next r rest hr =>
      split at h
      next i tail hd => exact .inr ⟨i, r, rest, tail, by simpa using hb, hr, hd, decodeRequest_offRx hd, h⟩
      next e _ => cases e <;> cases h

/-- Settles O52: the parameters of reset are well-formed whatever their free values are (`decided_wf`); the rest is empty,
unset or 0. -/
theorem resetMeetsTheInvariant : Obligations.ResetMeetsTheInvariant where
  cfg := decided_wf
  seq := rfl
  busy := rfl
  drainCnt := Nat.zero_le _
  pbuf := Nat.zero_le _
  ring := fun _ => rfl
  ident := nofun
  txlog := rfl
  notelog := nofun
  statuslog := nofun

/-- Settles O53: an arrival changes nothing the invariant speaks of; a request runs an instruction that is no frame class, and
each write of it keeps the invariant. -/
theorem stepKeepsTheInvariant : Obligations.StepKeepsTheInvariant := by
  intro s t hs h
  obtain rfl | ⟨i, r, rest, tail, -, -, -, hoff, hexec⟩ := step_cases h
  · exact deliver_inv hs
  · have htaken : (takeRequest rest s).Inv := deliver_inv { hs with }
    exact exec_inv (fun hrx => absurd (hoff.symm.trans hrx) (by decide)) htaken hexec

/-! ### Steps (O2, O3, O54) -/

/-- The step that takes a request runs what it decodes to. -/
theorem step_of_request {s : State} {r : Bytes} {rest : List Bytes} (hb : s.busy = false) (hr : s.requests = r :: rest) :
    step s = match decodeRequest r with
      | .ok (i, _) => exec i (takeRequest rest s)
      | .error e => stopOn e := by
  unfold step
  rw [hb, hr]
  rfl

/-- While BUSY = 1 or without a request the environment alone acts. -/
theorem step_of_idle {s : State} (h : s.busy = true ∨ s.requests = []) : step s = .next (deliver s) := by
  unfold step
  split
  · rfl
  next hb => rw [h.resolve_left hb]

/-- Settles O2. -/
theorem stepRunsTheDecodedRequest : Obligations.StepRunsTheDecodedRequest := by
  intro s r rest hb hr
  rw [step_of_request hb hr]
  refine ⟨fun i tail h => ?_, fun b h => ?_, fun h => ?_, fun b h => ?_⟩ <;> rw [h] <;> rfl

/-- Settles O3: what an arrival adds to RXBUF it takes from what is still to arrive. -/
theorem stepHoldsARequestWhileBusy : Obligations.StepHoldsARequestWhileBusy :=
  fun s h => ⟨deliver s, step_of_idle h, deliver_stream s, deliver_eq s⟩

/-- Settles O54: a request that decodes runs an instruction, which completes and writes no request. -/
theorem wellFormedRequestsNeverStop : Obligations.WellFormedRequestsNeverStop := by
  intro s hs
  by_cases hidle : s.busy = true ∨ s.requests = []
  · exact ⟨deliver s, step_of_idle hidle, by rwa [requestsOk, deliver_requests]⟩
  · rw [not_or, Bool.not_eq_true] at hidle
    obtain ⟨hb, hne⟩ := hidle
    obtain ⟨r, rest, hr⟩ := List.exists_cons_of_ne_nil hne
    rw [requestsOk, hr, List.all_cons, Bool.and_eq_true] at hs
    obtain ⟨hfront, hrest⟩ := hs
    rw [step_of_request hb hr]
    cases hd : decodeRequest r with
    | error e => simp [hd] at hfront
    | ok p =>
      obtain ⟨u, q, hw, hexec⟩ := exec_completes p.1 (takeRequest rest s)
      obtain ⟨-, hkept, -⟩ := hw.lock
      have hkept : (finish q u).requests = rest := hkept.trans (takeRequest_requests rest s)
      exact ⟨finish q u, hexec, by rwa [requestsOk, hkept]⟩

end Sys2Proof.Machine
end

section
/-! ## Proofs of the encoding family: requests, frames and words of the opcode table -/

namespace Sys2Proof.Machine

/-! ### Requests and frames (O55, O56) -/

/-- The law of the per-instruction lemmas, for every instruction. -/
theorem roundTrip (i : Instr) : Laws.RoundTrip.Statement i := by
  cases i with
  | reserved => exact Laws.RoundTrip.reserved
  | encShort id p1 p2 dest source => exact Laws.RoundTrip.encShort id p1 p2 dest source
  | decLong b => exact Laws.RoundTrip.decLong b
  | decShort b => exact Laws.RoundTrip.decShort b
  | clsStep => exact Laws.RoundTrip.clsStep
  | clsRun => exact Laws.RoundTrip.clsRun
  | histPush id => exact Laws.RoundTrip.histPush id
  | histLast => exact Laws.RoundTrip.histLast
  | hwiDecode payload => exact Laws.RoundTrip.hwiDecode payload
  | modelLookup serial => exact Laws.RoundTrip.modelLookup serial
  | hwiLatch payload => exact Laws.RoundTrip.hwiLatch payload
  | init source destination => exact Laws.RoundTrip.init source destination
  | setSuid v => exact Laws.RoundTrip.setSuid v
  | setHandler present => exact Laws.RoundTrip.setHandler present
  | setVerbose on => exact Laws.RoundTrip.setVerbose on
  | crRd n => exact Laws.RoundTrip.crRd n
  | hwResponse p1 p2 d c => exact Laws.RoundTrip.hwResponse p1 p2 d c
  | hwRichResponse l d c => exact Laws.RoundTrip.hwRichResponse l d c
  | statusUpdate i l d c => exact Laws.RoundTrip.statusUpdate i l d c
  | answerLong i l d c => exact Laws.RoundTrip.answerLong i l d c
  | answerShort i p1 p2 d c => exact Laws.RoundTrip.answerShort i p1 p2 d c
  | query id p1 p2 => exact Laws.RoundTrip.query id p1 p2
  | write id p1 p2 => exact Laws.RoundTrip.write id p1 p2
  | getHwInfo => exact Laws.RoundTrip.getHwInfo
  | setChannelState channel enabled => exact Laws.RoundTrip.setChannelState channel enabled
  | getChannelState channel => exact Laws.RoundTrip.getChannelState channel

/-- A well-formed request reads back, with what follows it left over. -/
theorem decodeRequest_encode {i : Instr} (hw : i.wf = true) (hoff : i.fromRx = false) (rest : Bytes) :
    decodeRequest (encode i ++ rest) = .ok (i, rest) :=
  (roundTrip i hw).1 hoff rest

/-- Settles O55: the request half of the round trip of each instruction. -/
theorem requestsDecodeAsEncoded : Obligations.RequestsDecodeAsEncoded :=
  fun _ rest hw hoff => decodeRequest_encode hw hoff rest

/-- What the RX decoder reads is the class of the header that the first six bytes are. -/
theorem decodeFrame_eq_some {c : FrameContext} {b : Bytes} {i : Instr} :
    decodeFrame c b = some i ↔ ∃ h, Header.ofBytes? b = some h ∧ (classify c h).toInstr = i :=
  Option.map_eq_some_iff

/-- Settles O56: classifying forgets no bit of the header (`header_classify`), and the header read is the first six bytes. -/
theorem framesDecodeAsEncoded : Obligations.FramesDecodeAsEncoded := by
  refine ⟨fun c f rest h => ?_, fun c b i hi => ?_⟩
  · rw [encode_toInstr, decodeFrame_bytes, h]
  · obtain ⟨h, hb, rfl⟩ := decodeFrame_eq_some.mp hi
    have htake : h.bytes = b.take 6 := by
      rw [Header.ofBytes?_eq_some.mp hb]
      rfl
    exact ⟨by rw [encode_toInstr, header_classify, htake], wf_classify c h⟩

/-! ### Words of the opcode table (O4, O57) -/

/-- Settles O57: each word is written out, so the decoders compute. -/
theorem writtenOutWordsDecode : Obligations.WrittenOutWordsDecode := by
  unfold Obligations.WrittenOutWordsDecode
  decide

/-- An identity byte stands for a channel, or for 0 (R102). -/
theorem channelOfIdent_le (b : Byte) : channelOfIdent b ≤ 4 := by
  unfold channelOfIdent
  repeat' split
  all_goals decide

theorem numberFits_channelOfIdent (b : Byte) : numberFits (channelOfIdent b) = true := by
  have := channelOfIdent_le b
  rw [numberFits, decide_eq_true_eq]
  omega

/-- Every row of 48 bits is an instruction that its encoding can carry. -/
theorem wf_decodeTableFrame (h : Header) : (decodeTableFrame h).wf = true := by
  unfold decodeTableFrame
  split
  · rfl
  · split
    · exact numberFits_channelOfIdent _
    · split
      · exact numberFits_channelOfIdent _
      · exact wf_classify _ h

/-- The sixteen OPSEL codes, with operands of zeros (R104). -/
theorem wf_opsel : ∀ k < 16, ∀ p ∈ (decodeRequest (BitVec.ofNat 8 k :: tableBytes 16 0)).toOption, p.1.wf = true := by
  decide

theorem wf_of_decodeTableWord {nbits w : Nat} {i : Instr} (h : decodeTableWord nbits w = some i) : i.wf = true := by
  unfold decodeTableWord at h
  split at h
  · split at h
    next j rest hd =>
      cases h
      exact wf_opsel (w % 16) (Nat.mod_lt _ (by decide)) (i, rest) (by rw [hd]; rfl)
    · cases h
  · split at h
    · obtain ⟨hd, -, rfl⟩ := Option.map_eq_some_iff.mp h
      exact wf_decodeTableFrame hd
    · cases h

/-- A placed request that reads back as `i` runs `i` in the next step, with the requests behind it waiting. -/
theorem step_of_encoded {s : State} {i : Instr} {rest : List Bytes} (hb : s.busy = false)
    (hr : s.requests = encode i :: rest) (hw : i.wf = true) (hoff : i.fromRx = false) :
    step s = exec i (takeRequest rest s) := by
  have hd := decodeRequest_encode hw hoff []
  rw [List.append_nil] at hd
  rw [step_of_request hb hr, hd]

/-- Settles O4: the word is well-formed, so the request placed for it reads back; for a frame it is that of CLS_STEP. -/
theorem placedWordRunsNext : Obligations.PlacedWordRunsNext := by
  intro s nbits w i hb h
  have hplace : s.withFetchWord nbits w = placeInstr i s := by
    unfold State.withFetchWord
    rw [h]
  rw [hplace]
  refine ⟨fun hoff => ?_, fun hrx => ?_⟩
  · have hreq : placeInstr i s = { s with requests := encode i :: s.requests } := by rw [placeInstr, hoff]; rfl
    rw [hreq]
    exact step_of_encoded hb rfl (wf_of_decodeTableWord h) hoff
  · have hreq : placeInstr i s =
        { s with rxbuf := encode i ++ s.rxbuf, requests := encode .clsStep :: s.requests } := by
      rw [placeInstr, hrx]
      rfl
    rw [hreq]
    exact step_of_encoded hb rfl rfl rfl

end Sys2Proof.Machine
end

section
/-! ## Proofs of the classifier family: the classes of a header (R95) and one frame (R141 to R148) -/

namespace Sys2Proof

/-! ### The ordered tests (O9, O10) -/

/-- The source the long-form test uses (R146). -/
def FrameContext.tested (c : FrameContext) (source : Byte) : Byte :=
  match c.longtestSrc with
  | .hdr => source
  | .cfg => c.src

section
variable {c : FrameContext} {h : Header} {dest source : Byte}

theorem longTest_iff : longTest c dest source = true ↔ (c.tested source ||| 0x80) = dest := by
  unfold longTest FrameContext.tested
  cases c.longtestSrc <;> exact decide_eq_true_iff

theorem statusTest_iff {id : Word16} : statusTest c id = true ↔ c.suid = some id ∧ c.newest = some id := by
  simp only [statusTest, Bool.and_eq_true, decide_eq_true_eq]

theorem classify_hwResponse (h0 : h.id = 0x0080) : classify c h = .hwResponse h.param1 h.param2 h.dest h.source :=
  if_pos h0

theorem classify_hwRichResponse (h1 : h.id = 0x0081) : classify c h = .hwRichResponse h.length h.dest h.source := by
  have h0 : h.id ≠ idHwResponse := by rw [h1]; decide
  rw [classify, if_neg h0, if_pos h1]

/-- Past the two notifications, steps 4 and 5 alone are left (R140). -/
theorem classify_past (h0 : h.id ≠ 0x0080) (h1 : h.id ≠ 0x0081) :
    classify c h =
      if statusTest c h.id then .statusUpdate h.id h.length h.dest h.source
      else if longTest c h.dest h.source then .answerLong h.id h.length h.dest h.source
      else .answerShort h.id h.param1 h.param2 h.dest h.source := by
  rw [classify, if_neg h0, if_neg h1]

theorem classify_statusUpdate (h0 : h.id ≠ 0x0080) (h1 : h.id ≠ 0x0081)
    (hs : c.suid = some h.id ∧ c.newest = some h.id) :
    classify c h = .statusUpdate h.id h.length h.dest h.source := by
  rw [classify_past h0 h1, if_pos (statusTest_iff.mpr hs)]

theorem classify_answer (h0 : h.id ≠ 0x0080) (h1 : h.id ≠ 0x0081)
    (hs : ¬ (c.suid = some h.id ∧ c.newest = some h.id)) :
    classify c h =
      if longTest c h.dest h.source then .answerLong h.id h.length h.dest h.source
      else .answerShort h.id h.param1 h.param2 h.dest h.source := by
  rw [classify_past h0 h1, if_neg (mt statusTest_iff.mp hs)]

end

namespace Machine

/-- Settles O9: the five tests of `classify` in their order. -/
theorem everyHeaderFallsInItsClass : Obligations.EveryHeaderFallsInItsClass := by
  intro c h
  refine ⟨classify_hwResponse, classify_hwRichResponse, fun h0 h1 hs hn => classify_statusUpdate h0 h1 ⟨hs, hn⟩,
    fun h0 h1 hs hl => ?_, fun h0 h1 hs hl => ?_⟩
  · rw [classify_answer h0 h1 hs, if_pos (longTest_iff.mpr hl)]
  · rw [classify_answer h0 h1 hs, if_neg (mt longTest_iff.mp hl)]

/-- ORing LONG_FLAG sets bit 7 and keeps the bits below it. -/
theorem or_longFlag_toNat (b : Byte) : (b ||| 0x80).toNat = 128 + b.toNat % 128 := by
  have hlow : ∀ n < 128, n ||| 128 = 128 + n := fun n hn => by
    rw [Nat.or_comm]
    exact (Nat.two_pow_add_eq_or_of_lt (i := 7) hn 1).symm
  rw [BitVec.toNat_or]
  change b.toNat ||| 128 = _
  by_cases hb : b.toNat < 128
  · rw [hlow _ hb, Nat.mod_eq_of_lt hb]
  · have := b.isLt
    have hsplit : b.toNat = (b.toNat - 128) ||| 128 := by rw [hlow _ (by omega)]; omega
    rw [hsplit, Nat.or_assoc, Nat.or_self, hlow _ (by omega)]
    omega

/-- Settles O10: both sides say which number `dest` is. -/
theorem longTestComparesLowSevenBits : Obligations.LongTestComparesLowSevenBits := by
  intro c dest source
  have hd := dest.isLt
  have htest : longTest c dest source = true ↔ 128 + (c.tested source).toNat % 128 = dest.toNat := by
    rw [longTest_iff, ← BitVec.toNat_inj, or_longFlag_toNat]
  rw [htest]
  change _ ↔ dest.toNat / 128 = 1 ∧ dest.toNat % 128 = (c.tested source).toNat % 128
  omega

/-! ### What a read leaves -/

section
variable (n : Nat) (s : State)

@[simp] theorem afterRead_rxbuf : (afterRead n s).rxbuf = (atRead n s).rxbuf.drop n := rfl
@[simp] theorem afterRead_incoming : (afterRead n s).incoming = (atRead n s).incoming := rfl
@[simp] theorem afterRead_seq : (afterRead n s).seq = .idle := rfl

/-- A read depends on the stream alone, and writes it and SEQ alone. -/
theorem afterRead_of_rx {t : State} (h1 : t.rxbuf = s.rxbuf) (h2 : t.incoming = s.incoming) :
    afterRead n t =
      { t with rxbuf := (atRead n s).rxbuf.drop n, incoming := (atRead n s).incoming, seq := .idle } := by
  obtain ⟨hrx, hin⟩ := atRead_congr n h1 h2
  rw [afterRead_eq, afterRead_rxbuf, afterRead_incoming, hrx, hin]

/-- The lock is no matter to a read. -/
theorem afterRead_underLock (b : Bool) : afterRead n { s with busy := b } = { afterRead n s with busy := b } := by
  rw [afterRead_of_rx n s (t := { s with busy := b }) rfl rfl, afterRead_of_rx n s (t := s) rfl rfl]

end

/-- With fewer than six bytes there a step raises, having removed them (R141, D8). -/
theorem clsStep_of_short {s : State} (h : (atRead 6 s).rxbuf.length < 6) :
    clsStep s =
      raise (if (atRead 6 s).rxbuf = [] then .noFrame else .shortRead (atRead 6 s).rxbuf.length) (afterRead 6 s) := by
  rw [clsStep_eq, readHeader_eq, Header.ofBytes?_eq_none.mpr h]
  simp only [List.length_eq_zero_iff]
  split <;> rfl

/-! ### A frame of each class (O11 to O16) -/

/-- A frame class by its body, which runs under the lock with HDR written. -/
theorem exec_toInstr_of_eq {f : Frame} {s u : State} {o : Res FrameOutcome}
    (h : takeFrame f (setHdr f.header { s with busy := true }) = (u, o)) :
    exec f.toInstr s = .next (finish (o.reply .frame) u) := by
  rw [exec_toInstr, transact_eq, h]

/-- Settles O11: the notification is the one write beside HDR. -/
theorem hwResponseIsConsumed : Obligations.HwResponseIsConsumed := by
  intro p1 p2 dest source s
  have hbody : takeFrame (.hwResponse p1 p2 dest source) (setHdr (.short 0x0080 p1 p2 dest source) { s with busy := true }) =
      ret (.consumed .hwResponse) (notify .hwResponse (shortMessage 0x0080 p1 p2 dest source) _) := rfl
  rw [notify_eq] at hbody
  exact exec_toInstr_of_eq hbody

/-- Settles O15. -/
theorem answerShortIsReturned : Obligations.AnswerShortIsReturned := fun _ _ _ _ _ _ => rfl

section
variable {l : Word16} {s : State}

/-- The state in which a class with a payload that is there runs on, after the payload read (R147). -/
def withPayload (h : Header) (l : Word16) (s : State) : State :=
  { s with
    busy := true
    hdr := h.word
    pbuf := (atRead l.toNat s).rxbuf.take l.toNat
    rxbuf := (atRead l.toNat s).rxbuf.drop l.toNat
    incoming := (atRead l.toNat s).incoming
    seq := .idle }

theorem readPayload_whole (h : Header) (hl : l.toNat ≤ (atRead l.toNat s).rxbuf.length) :
    readPayload l (setHdr h { s with busy := true }) =
      ret ((atRead l.toNat s).rxbuf.take l.toNat) (withPayload h l s) := by
  have hrx := (atRead_congr l.toNat (s := s) (t := setHdr h { s with busy := true }) rfl rfl).1
  rw [readPayload_eq, hrx, if_neg (by omega), afterRead_of_rx _ s (t := setHdr h { s with busy := true }) rfl rfl]
  rfl

/-- A payload that is there in part is removed, and the read raises (R147, R155). -/
theorem readPayload_cut (h : Header) (hl : (atRead l.toNat s).rxbuf.length < l.toNat) :
    readPayload l (setHdr h { s with busy := true }) =
      raise (.shortPayload l.toNat (atRead l.toNat s).rxbuf.length)
        { s with busy := true, hdr := h.word, rxbuf := [], incoming := (atRead l.toNat s).incoming, seq := .idle } := by
  have hrx := (atRead_congr l.toNat (s := s) (t := setHdr h { s with busy := true }) rfl rfl).1
  rw [readPayload_eq, hrx, if_pos hl, afterRead_of_rx _ s (t := setHdr h { s with busy := true }) rfl rfl,
    List.drop_eq_nil_of_le hl.le]
  rfl

end

/-- Settles O12. -/
theorem hwRichResponseIsConsumed : Obligations.HwRichResponseIsConsumed := by
  intro l dest source s hl
  have hbody : takeFrame (.hwRichResponse l dest source) (setHdr (.long 0x0081 l dest source) { s with busy := true }) =
      ret (.consumed .hwRichResponse) (notify .hwRichResponse
        (longMessage 0x0081 l dest source ((atRead l.toNat s).rxbuf.take l.toNat))
        (withPayload (.long 0x0081 l dest source) l s)) := by
    rw [takeFrame, takeHwRichResponse, readPayload_whole _ hl, andThen_ret]
  rw [notify_eq] at hbody
  exact ⟨_, exec_toInstr_of_eq hbody, rfl, rfl, rfl, rfl, rfl, rfl⟩

/-- Settles O13: the payload is read before the handler is asked for (R154). -/
theorem statusUpdateGoesToTheHandler : Obligations.StatusUpdateGoesToTheHandler := by
  intro id l dest source s hl
  have hbody : takeFrame (.statusUpdate id l dest source) (setHdr (.long id l dest source) { s with busy := true }) =
      if s.handler then ret (.consumed .statusUpdate) (emitStatus
        (longMessage id l dest source ((atRead l.toNat s).rxbuf.take l.toNat)) (withPayload (.long id l dest source) l s))
      else raise (.noStatusHandler id) (withPayload (.long id l dest source) l s) := by
    rw [takeFrame, takeStatusUpdate, readPayload_whole _ hl, andThen_ret]
    rfl
  cases hh : s.handler with
  | true =>
    rw [if_pos hh] at hbody
    exact ⟨_, exec_toInstr_of_eq (f := .statusUpdate id l dest source) hbody, rfl, rfl, rfl, rfl, rfl,
      fun _ => ⟨rfl, rfl⟩, nofun⟩
  | false =>
    rw [if_neg (by rw [hh]; decide)] at hbody
    exact ⟨_, exec_toInstr_of_eq (f := .statusUpdate id l dest source) hbody, rfl, rfl, rfl, rfl, rfl,
      nofun, fun _ => ⟨rfl, rfl⟩⟩

/-- Settles O14. -/
theorem answerLongIsReturned : Obligations.AnswerLongIsReturned := by
  intro id l dest source s hl
  have hbody : takeFrame (.answerLong id l dest source) (setHdr (.long id l dest source) { s with busy := true }) =
      ret (.answer (longMessage id l dest source ((atRead l.toNat s).rxbuf.take l.toNat)))
        (withPayload (.long id l dest source) l s) := by
    rw [takeFrame, takeAnswerLong, readPayload_whole _ hl, andThen_ret]
  exact ⟨_, exec_toInstr_of_eq hbody, rfl, rfl, rfl, rfl, rfl⟩

/-- A class with a payload that is there in part ends with its read. -/
theorem exec_toInstr_of_cut {f : Frame} {l : Word16} {s : State}
    (hf : ∀ {s e t}, readPayload l s = raise e t → takeFrame f s = raise e t) (hl : (atRead l.toNat s).rxbuf.length < l.toNat) :
    exec f.toInstr s = .next (finish (.error (.shortPayload l.toNat (atRead l.toNat s).rxbuf.length))
      { s with
        busy := true, hdr := f.header.word, rxbuf := [], incoming := (atRead l.toNat s).incoming, seq := .idle }) :=
  exec_toInstr_of_eq (hf (readPayload_cut _ hl))

/-- Settles O16: steps 3, 4 and 5 each begin with the payload read. -/
theorem cutPayloadIsAFrameError : Obligations.CutPayloadIsAFrameError := by
  intro i id l dest source s hi hl
  simp only [List.mem_cons, List.not_mem_nil, or_false] at hi
  obtain rfl | rfl | rfl := hi
  · exact ⟨_, exec_toInstr_of_cut (f := .hwRichResponse l dest source)
      (fun h => by rw [takeFrame, takeHwRichResponse, h, andThen_raise]) hl, rfl, rfl, rfl, rfl, rfl, rfl⟩
  · exact ⟨_, exec_toInstr_of_cut (f := .statusUpdate id l dest source)
      (fun h => by rw [takeFrame, takeStatusUpdate, h, andThen_raise]) hl, rfl, rfl, rfl, rfl, rfl, rfl⟩
  · exact ⟨_, exec_toInstr_of_cut (f := .answerLong id l dest source)
      (fun h => by rw [takeFrame, takeAnswerLong, h, andThen_raise]) hl, rfl, rfl, rfl, rfl, rfl, rfl⟩

/-! ### CLS_STEP (O17 to O19) -/

theorem exec_clsStep_eq (s : State) : exec .clsStep s = transact .frame clsStep s := rfl

theorem exec_clsRun_eq (s : State) : exec .clsRun s = transact .message clsRun s := rfl

/-- Settles O17: the lock is in neither the stream nor the context, so the header read and the classification are those of the
start state. -/
theorem clsStepRunsTheFrameItReads : Obligations.ClsStepRunsTheFrameItReads := by
  intro s i hi
  obtain ⟨h, hb, rfl⟩ := decodeFrame_eq_some.mp hi
  have hb' : Header.ofBytes? (atRead 6 { s with busy := true }).rxbuf = some h := by
    rw [(atRead_congr 6 (s := s) (t := { s with busy := true }) rfl rfl).1, hb]
  have hstep : clsStep { s with busy := true } = takeFrame (classify s.frameContext h)
      (setHdr (classify s.frameContext h).header { afterRead 6 s with busy := true }) := by
    rw [clsStep_of_header hb', header_classify, afterRead_underLock]
    rfl
  exact (exec_toInstr_of_eq (s := afterRead 6 s) hstep.symm).symm

/-- Settles O18: the first step of CLS_RUN is CLS_STEP's, at DRAIN_CNT = 0. -/
theorem shortHeaderIsTimeoutOrFrameError : Obligations.ShortHeaderIsTimeoutOrFrameError := by
  intro s hs e u
  have hstep : ∀ t : State, t.rxbuf = s.rxbuf → t.incoming = s.incoming →
      clsStep t = raise e { t with rxbuf := [], incoming := (atRead 6 s).incoming, seq := .idle } := by
    intro t h1 h2
    have hrx := (atRead_congr 6 h1 h2).1
    rw [clsStep_of_short (by rwa [hrx]), hrx, afterRead_of_rx 6 s h1 h2, List.drop_eq_nil_of_le hs.le]
  have hu : u = { s with rxbuf := [], incoming := (atRead 6 s).incoming, seq := .idle } := by
    change { afterRead 6 s with rxbuf := [] } = _
    rw [afterRead_of_rx 6 s rfl rfl]
  refine ⟨?_, ?_⟩
  · rw [exec_clsStep_eq, transact_eq, hstep { s with busy := true } rfl rfl, hu]
    rfl
  · rw [exec_clsRun_eq, transact_eq, clsRun, drain_turn, hstep (setDrainCnt 0 { s with busy := true }) rfl rfl, hu]
    rfl

/-- Settles O19: `clsStep_of_wire` under the lock. -/
theorem clsStepTakesOneWholeFrame : Obligations.ClsStepTakesOneWholeFrame := by
  intro s f data rest hi hr hg
  rw [exec_clsStep_eq, transact_eq, clsStep_of_wire (s := { s with busy := true }) hi hr hg]
  rfl

end Machine

end Sys2Proof
end

section
/-! ## Proofs of the classifier family: the drain (R150, R151), DEST (R26) and the newest id (R299) -/

namespace Sys2Proof.Machine

/-! ### Whole frames ahead of the drain (O20, O21) -/

/-- The drain went on over the whole frames of `l`, with `rest` behind them, and left the rest of the run as it was. -/
structure Took (l : List (Frame × Bytes)) (rest : Bytes) (s t : State) : Prop where
  rxbuf : t.rxbuf = rest
  incoming : t.incoming = s.incoming
  drainCnt : t.drainCnt = s.drainCnt + l.length
  notelog : t.notelog = s.notelog ++ l.flatMap fun p => noteEvents s.verbose p.1 p.2
  statuslog : t.statuslog = s.statuslog ++ l.flatMap fun p => statusEvents p.1 p.2
  context : t.frameContext = s.frameContext
  handler : t.handler = s.handler
  verbose : t.verbose = s.verbose

theorem frameOutcome_unsolicited {f : Frame} (h : unsolicited f = true) (data : Bytes) :
    ∃ c, frameOutcome f data = .consumed c := by
  cases f with
  | hwResponse p1 p2 d c => exact ⟨_, rfl⟩
  | hwRichResponse l d c => exact ⟨_, rfl⟩
  | statusUpdate i l d c => exact ⟨_, rfl⟩
  | answerLong i l d c => cases h
  | answerShort i p1 p2 d c => cases h

/-- An answer is the outcome of its frame, and causes no event. -/
theorem frameOutcome_answer {f : Frame} (h : unsolicited f = false) (verbose : Bool) (data : Bytes) :
    frameOutcome f data = .answer (frameMessage f data) ∧ noteEvents verbose f data = [] ∧ statusEvents f data = [] := by
  cases f with
  | hwResponse p1 p2 d c => cases h
  | hwRichResponse l d c => cases h
  | statusUpdate i l d c => cases h
  | answerLong i l d c => exact ⟨rfl, rfl, rfl⟩
  | answerShort i p1 p2 d c => exact ⟨rfl, rfl, rfl⟩

/-- One unsolicited frame at the front: the drain consumes it and goes on, or exhausts its bound. -/
theorem drain_unsolicited {f : Frame} {data rest : Bytes} {s : State} (left : Nat) (hi : s.incoming = [])
    (hr : s.rxbuf = wire f data ++ rest) (hu : unsolicited f = true)
    (hg : goodFrame s.frameContext s.handler (f, data) = true) :
    drain left s =
      if left = 0 then raise (.drainExhausted s.drainCnt) (afterFrame f data rest s)
      else drain (left - 1) (setDrainCnt (s.drainCnt + 1) (afterFrame f data rest s)) := by
  obtain ⟨c, hc⟩ := frameOutcome_unsolicited hu data
  rw [drain_turn, clsStep_of_wire hi hr hg, hc]
  rfl

/-- An answer at the front ends the drain, however much of the bound is left. -/
theorem drain_answer {f : Frame} {data rest : Bytes} {s : State} (left : Nat) (hi : s.incoming = [])
    (hr : s.rxbuf = wire f data ++ rest) (hu : unsolicited f = false)
    (hg : goodFrame s.frameContext s.handler (f, data) = true) :
    drain left s = ret (frameMessage f data) (afterFrame f data rest s) := by
  rw [drain_turn, clsStep_of_wire hi hr hg, (frameOutcome_answer hu s.verbose data).1]
  rfl

/-- Each unsolicited frame costs one of the bound. -/
theorem drain_wires (left : Nat) (rest : Bytes) : ∀ (l : List (Frame × Bytes)) (s : State), s.incoming = [] →
    s.rxbuf = wires l ++ rest → (∀ p ∈ l, unsolicited p.1 = true ∧ goodFrame s.frameContext s.handler p = true) →
    ∃ t, drain (left + l.length) s = drain left t ∧ Took l rest s t
  | [], s, _, hr, _ => ⟨s, rfl, hr, rfl, rfl, by simp, by simp, rfl, rfl, rfl⟩
  | p :: l, s, hi, hr, hl => by
    obtain ⟨hu, hg⟩ := hl p List.mem_cons_self
    have hr' : s.rxbuf = wire p.1 p.2 ++ (wires l ++ rest) := by
      rw [hr, wires, List.flatMap_cons, List.append_assoc]
      rfl
    obtain ⟨t, hdrain, ht⟩ := drain_wires left rest l
      (setDrainCnt (s.drainCnt + 1) (afterFrame p.1 p.2 (wires l ++ rest) s)) hi rfl
      (fun q hq => hl q (List.mem_cons_of_mem p hq))
    refine ⟨t, ?_, ht.rxbuf, ht.incoming, ?_, ?_, ?_, ht.context, ht.handler, ht.verbose⟩
    · rw [List.length_cons, ← hdrain, drain_unsolicited _ hi hr' hu hg, if_neg (by omega)]
      rfl
    · rw [ht.drainCnt, setDrainCnt_drainCnt, List.length_cons]
      omega
    · rw [ht.notelog]
      simp
    · rw [ht.statuslog]
      simp

/-- The run ended with answer `a`, the frames of `l` consumed before it and `rest` behind it (R150). -/
structure Answered (l : List (Frame × Bytes)) (a : Frame) (rest : Bytes) (s t : State) : Prop where
  rxbuf : t.rxbuf = rest
  incoming : t.incoming = []
  drainCnt : t.drainCnt = l.length
  hdr : t.hdr = a.header.word
  notelog : t.notelog = s.notelog ++ l.flatMap fun p => noteEvents s.verbose p.1 p.2
  statuslog : t.statuslog = s.statuslog ++ l.flatMap fun p => statusEvents p.1 p.2

section
variable {s : State} {l : List (Frame × Bytes)} {a : Frame} {data rest : Bytes}

/-- CLS_RUN on a stream that holds a whole answer behind at most DRAIN_MAX unsolicited frames. -/
theorem clsRun_answered (hi : s.incoming = []) (hr : s.rxbuf = wires l ++ wire a data ++ rest)
    (hl : ∀ p ∈ l, unsolicited p.1 = true ∧ goodFrame s.frameContext s.handler p = true)
    (hmax : l.length ≤ s.cfg.drainMax) (ha : unsolicited a = false)
    (hg : goodFrame s.frameContext s.handler (a, data) = true) :
    ∃ t, clsRun s = ret (frameMessage a data) t ∧ Answered l a rest s t := by
  obtain ⟨t, hdrain, ht⟩ := drain_wires (s.cfg.drainMax - l.length) (wire a data ++ rest) l (setDrainCnt 0 s) hi
    (by rw [setDrainCnt_rxbuf, hr, List.append_assoc]) hl
  rw [Nat.sub_add_cancel hmax] at hdrain
  obtain ⟨-, hnote, hstatus⟩ := frameOutcome_answer ha t.verbose data
  have hans : drain (s.cfg.drainMax - l.length) t = ret (frameMessage a data) (afterFrame a data rest t) :=
    drain_answer _ (ht.incoming.trans hi) ht.rxbuf ha (by rw [ht.context, ht.handler]; exact hg)
  refine ⟨afterFrame a data rest t, hdrain.trans hans, rfl, ht.incoming.trans hi, ?_, rfl, ?_, ?_⟩
  · rw [afterFrame_drainCnt, ht.drainCnt, setDrainCnt_drainCnt, Nat.zero_add]
  · rw [afterFrame_notelog, hnote, List.append_nil, ht.notelog]
    rfl
  · rw [afterFrame_statuslog, hstatus, List.append_nil, ht.statuslog]
    rfl

end

/-- Settles O20: the lock is in none of what `clsRun_answered` asks for. -/
theorem clsRunReturnsTheFirstAnswer : Obligations.ClsRunReturnsTheFirstAnswer := by
  intro s l a data rest hi hr hl hmax ha hg
  obtain ⟨t, hrun, ht⟩ := clsRun_answered (s := { s with busy := true }) hi hr hl hmax ha hg
  have hreplies : t.replies = s.replies := by
    obtain ⟨-, -, h⟩ := (does_clsRun (ok := True) { s with busy := true }).lock
    rwa [hrun] at h
  refine ⟨finish (.message (frameMessage a data)) t, ?_, ?_, ht.rxbuf, ht.drainCnt, ht.hdr, ht.notelog, ht.statuslog⟩
  · rw [exec_clsRun_eq, transact_eq, hrun]
    rfl
  · rw [finish_replies, hreplies]

/-- Settles O21: the last of the frames meets what is left of the bound, nothing. -/
theorem floodExhaustsTheDrain : Obligations.FloodExhaustsTheDrain := by
  intro s l rest hi hr hl hlen
  obtain rfl | ⟨init, p, rfl⟩ := List.eq_nil_or_concat' l
  · cases hlen
  rw [List.length_append, List.length_singleton, Nat.add_right_cancel_iff] at hlen
  have hlast : unsolicited p.1 = true ∧ goodFrame s.frameContext s.handler p = true := hl p (by simp)
  obtain ⟨t, hdrain, ht⟩ := drain_wires 0 (wire p.1 p.2 ++ rest) init (setDrainCnt 0 { s with busy := true }) hi
    (by simp [hr, wires]) (fun q hq => hl q (by simp [hq]))
  have hend : clsRun { s with busy := true } = raise (.drainExhausted t.drainCnt) (afterFrame p.1 p.2 rest t) := by
    rw [clsRun, ← hlen, ← Nat.zero_add init.length, hdrain, drain_unsolicited 0 (ht.incoming.trans hi) ht.rxbuf hlast.1
      (by rw [ht.context, ht.handler]; exact hlast.2), if_pos rfl]
  have hcnt : t.drainCnt = s.cfg.drainMax := by rw [ht.drainCnt, setDrainCnt_drainCnt, Nat.zero_add, hlen]
  have hreplies : t.replies = s.replies := by
    obtain ⟨-, -, h⟩ := (does_clsRun (ok := True) { s with busy := true }).lock
    rwa [hend] at h
  refine ⟨finish (.error (.drainExhausted t.drainCnt)) (afterFrame p.1 p.2 rest t), ?_, ?_, rfl, hcnt, ?_, ?_⟩
  · rw [exec_clsRun_eq, transact_eq, hend]
    rfl
  · rw [finish_replies, afterFrame_replies, hreplies, hcnt]
  · rw [finish_notelog, afterFrame_notelog, ht.notelog, ht.verbose]
    simp
  · rw [finish_statuslog, afterFrame_statuslog, ht.statuslog]
    simp

/-! ### Any stream (O22) -/

/-- DRAIN_CNT is only ever set within the bound (R37). -/
theorem Write.counted {ok : Prop} {s t : State} (w : Write ok s t) (h : s.drainCnt ≤ s.cfg.drainMax) :
    t.drainCnt ≤ t.cfg.drainMax := by
  cases w with
  | count _ hn => exact hn
  | reset => exact Nat.zero_le _
  | _ => simpa using h

theorem clsRun_counted (s : State) : (clsRun s).1.drainCnt ≤ s.cfg.drainMax := by
  have hparams : (clsRun s).1.cfg = s.cfg := keeps_clsRun (g := .params) (by decide) s
  have hdrain : Writes True (setDrainCnt 0 s) (clsRun s).1 := does_drain _ _ (by simp)
  rw [← hparams]
  exact hdrain.induct (R := fun s t => s.drainCnt ≤ s.cfg.drainMax → t.drainCnt ≤ t.cfg.drainMax) (fun _ => id)
    (fun a b => b ∘ a) Write.counted (Nat.zero_le _)

/-- Settles O22. -/
theorem clsRunAlwaysEndsWithinItsBound : Obligations.ClsRunAlwaysEndsWithinItsBound := by
  intro s
  obtain ⟨-, -, hreplies⟩ := (does_clsRun (ok := True) { s with busy := true }).lock
  refine ⟨_, rfl, clsRun_counted { s with busy := true }, ?_⟩
  rw [finish_replies, hreplies]
  cases (clsRun { s with busy := true }).2 with
  | ok m => exact .inl ⟨m, rfl⟩
  | raised e => exact .inr ⟨e, rfl⟩

/-! ### DEST (O23) -/

/-- The body runs alike under another DEST, to the same end, and leaves that DEST. -/
def Blind {α : Type} (body : State → Run α) : Prop :=
  ∀ (d : Option Byte) (s : State), body { s with dest := d } = ({ (body s).1 with dest := d }, (body s).2)

section
variable {α β : Type}

theorem Blind.andThen {m : State → Run α} {f : α → State → Run β} (hm : Blind m) (hf : ∀ v, Blind (f v)) :
    Blind fun s => (m s).andThen f := by
  intro d s
  simp only [hm d s]
  obtain ⟨t, v | e⟩ := m s
  · exact hf v d t
  · rfl

/-- A read under another DEST. -/
theorem afterRead_underDest (n : Nat) (d : Option Byte) (s : State) :
    afterRead n { s with dest := d } = { afterRead n s with dest := d } := by
  rw [afterRead_of_rx n s (t := { s with dest := d }) rfl rfl, afterRead_of_rx n s (t := s) rfl rfl]

theorem blind_readPayload (l : Word16) : Blind (readPayload l) := by
  intro d s
  have hrx := (atRead_congr l.toNat (s := s) (t := { s with dest := d }) rfl rfl).1
  rw [readPayload_eq, readPayload_eq, hrx, afterRead_underDest]
  split <;> rfl

theorem blind_readHeader : Blind readHeader := by
  intro d s
  have hrx := (atRead_congr 6 (s := s) (t := { s with dest := d }) rfl rfl).1
  rw [readHeader_eq, readHeader_eq, hrx, afterRead_underDest]
  cases Header.ofBytes? (atRead 6 s).rxbuf with
  | some h => rfl
  | none => dsimp only; split <;> rfl

theorem blind_notify (v : α) (k : NoteKind) (m : Message) : Blind fun s => ret v (notify k m s) := by
  intro d s
  simp only [notify_eq]
  rfl

theorem blind_takeFrame (f : Frame) : Blind (takeFrame f) := by
  cases f with
  | hwResponse p1 p2 d c => exact blind_notify _ _ _
  | hwRichResponse l d c => exact (blind_readPayload l).andThen fun _ => blind_notify _ _ _
  | statusUpdate i l d c =>
    have htail : ∀ data, Blind fun s => if s.handler then
        ret (FrameOutcome.consumed .statusUpdate) (emitStatus (longMessage i l d c data) s) else raise (.noStatusHandler i) s := by
      intro data d s
      dsimp only
      split <;> rfl
    exact (blind_readPayload l).andThen htail
  | answerLong i l d c => exact (blind_readPayload l).andThen fun _ _ _ => rfl
  | answerShort i p1 p2 d c => exact fun _ _ => rfl

theorem blind_clsStep : Blind clsStep :=
  blind_readHeader.andThen fun h d s => blind_takeFrame (classify s.frameContext h) d s

theorem blind_drain : ∀ left, Blind (drain left)
  | 0 => blind_clsStep.andThen fun o _ _ => by cases o <;> rfl
  | left + 1 => blind_clsStep.andThen fun o d s => by
    cases o with
    | answer m => rfl
    | consumed c => exact blind_drain left d (setDrainCnt (s.drainCnt + 1) s)

theorem blind_clsRun : Blind clsRun := fun d s => blind_drain s.cfg.drainMax d (setDrainCnt 0 s)

theorem Blind.transact {f : α → Reply} {body : State → Run α} {s t : State} (hb : Blind body)
    (h : transact f body s = .next t) (d : Option Byte) :
    Machine.transact f body { s with dest := d } = .next { t with dest := d } := by
  rw [transact_eq] at h ⊢
  cases h
  exact congrArg (fun m : Run α => Host.Outcome.next (finish (m.2.reply f) m.1)) (hb d { s with busy := true })

end

/-- Settles O23: no part of the classifier reads DEST. -/
theorem classifierIgnoresTheConfiguredDestination : Obligations.ClassifierIgnoresTheConfiguredDestination := by
  intro i s t d hi h
  obtain rfl | rfl | hrx := hi
  · exact blind_clsStep.transact h d
  · exact blind_clsRun.transact h d
  · obtain ⟨f, rfl⟩ := exists_frame_of_fromRx hrx
    rw [exec_toInstr] at h ⊢
    have hbody : Blind fun s => takeFrame f (setHdr f.header s) := fun d s => blind_takeFrame f d (setHdr f.header s)
    exact hbody.transact h d

/-! ### The newest id (O25) -/

theorem exec_histPush (id : Word16) (s : State) : exec (.histPush id) s = .next (handsBack .done (pushHistory id s)) := rfl

/-- A push changes the context in its newest id alone (R94). -/
theorem frameContext_pushHistory (id : Word16) (s : State) :
    (pushHistory id s).frameContext = contextAfterPush s id := by
  simp [State.frameContext, contextAfterPush, pushHistory_newest]

/-- Settles O25: `statusTest` compares the id with SUID and with the pushed id. -/
theorem newestIdDecidesStatusUpdates : Obligations.NewestIdDecidesStatusUpdates := by
  intro s sent su h hs h0 h1 hid
  subst hid
  have hctx : (handsBack .done (pushHistory sent s)).frameContext = contextAfterPush s sent :=
    frameContext_pushHistory sent s
  have hdecode := decodeFrame_bytes (contextAfterPush s sent) h []
  rw [List.append_nil] at hdecode
  refine ⟨_, exec_histPush sent s, fun hsent => ?_, fun hsent => ?_⟩ <;> rw [hctx, hdecode]
  · rw [classify_statusUpdate h0 h1 ⟨hs, congrArg some hsent⟩]
    rfl
  · have hno : ¬ ((contextAfterPush s sent).suid = some h.id ∧ (contextAfterPush s sent).newest = some h.id) :=
      fun hboth => hsent (Option.some.inj hboth.2)
    rw [classify_answer h0 h1 hno]
    split <;> simp [Frame.toInstr]

end Sys2Proof.Machine
end

section
/-! ## Proofs of the codec family: the decoders, the reserved select and the error triples (R105, R122 to R124, R252) -/

namespace Sys2Proof

/-- Two bytes as a number, low byte first (R12). -/
theorem le16_eq_ofNat (lo hi : Byte) : le16 lo hi = BitVec.ofNat 16 (lo.toNat + 256 * hi.toNat) := by
  apply BitVec.eq_of_toNat_eq
  rw [le16_toNat, BitVec.toNat_ofNat, Nat.mod_eq_of_lt (by omega)]

/-- Six bytes are a header. -/
theorem Header.exists_bytes_eq {b : Bytes} (h : b.length = 6) : ∃ hd : Header, b = hd.bytes := by
  cases hb : Header.ofBytes? b with
  | none => have := Header.ofBytes?_eq_none.mp hb; omega
  | some hd =>
    have hsplit := Header.ofBytes?_eq_some.mp hb
    rw [List.drop_eq_nil_of_le (Nat.le_of_eq h), List.append_nil] at hsplit
    exact ⟨hd, hsplit⟩

namespace Machine

/-- A lookup as the whole body hands back what it finds, or its error. -/
theorem transact_orRaise {α : Type} (f : α → Reply) (o : Option α) (e : ErrorKind) (s : State) :
    transact f (orRaise o e) s = .next (handsBack (o.elim (.error e) f) s) := by
  cases o <;> rfl

theorem exec_decLong (b : Bytes) (s : State) :
    exec (.decLong b) s = .next (handsBack ((Header.ofBytes? b).elim (.error (.shortRead b.length))
      fun h => .longHeader h.id h.length h.dest h.source) s) :=
  transact_orRaise _ _ _ s

theorem exec_decShort (b : Bytes) (s : State) :
    exec (.decShort b) s = .next (handsBack ((Header.ofBytes? b).elim (.error (.shortRead b.length))
      fun h => .shortHeader h.id h.param1 h.param2 h.dest h.source) s) :=
  transact_orRaise _ _ _ s

/-- DEC_SHORT of a header's bytes hands back its short view. -/
theorem exec_decShort_bytes (h : Header) (s : State) :
    exec (.decShort h.bytes) s = .next (handsBack (.shortHeader h.id h.param1 h.param2 h.dest h.source) s) :=
  exec_decShort h.bytes s

/-- Settles O6: `Header.ofBytes?` finds the first six bytes, and nothing in fewer. -/
theorem decodersReadTheFirstSixBytes : Obligations.DecodersReadTheFirstSixBytes := by
  refine ⟨fun b0 b1 b2 b3 b4 b5 rest s => ?_, fun b s hb => ?_⟩
  · rw [exec_decLong, exec_decShort, ← le16_eq_ofNat, ← le16_eq_ofNat]
    exact ⟨rfl, rfl⟩
  · rw [exec_decLong, exec_decShort, Header.ofBytes?_eq_none.mpr hb]
    exact ⟨rfl, rfl⟩

/-- Settles O7: six bytes and their short view determine each other (`Header.short_view`). -/
theorem codecRoundTrips : Obligations.CodecRoundTrips := by
  refine ⟨fun id p1 p2 dest source s u => ?_, fun b s u hb => ?_⟩
  · have hdec := exec_decShort_bytes (.short id p1 p2 dest source) u
    rw [Header.short_id] at hdec
    exact ⟨(Header.short id p1 p2 dest source).bytes, rfl, exec_encShort id p1 p2 dest source s, hdec⟩
  · obtain ⟨h, rfl⟩ := Header.exists_bytes_eq hb
    have henc := exec_encShort h.id h.param1 h.param2 h.dest h.source u
    rw [Header.short_view] at henc
    exact ⟨h.id, h.param1, h.param2, h.dest, h.source, exec_decShort_bytes h s, henc⟩

/-- Settles O8. -/
theorem reservedSelectIsNotSupported : Obligations.ReservedSelectIsNotSupported :=
  fun _ => ⟨.reservedOp 0, rfl, rfl⟩

/-- Settles O48: the triples are the rows of R252. -/
theorem errorTriplesAreThoseOfTheTable : Obligations.ErrorTriplesAreThoseOfTheTable :=
  ⟨fun _ => rfl, fun _ _ => rfl, rfl, fun _ => rfl, fun _ => rfl, fun _ => rfl, fun _ => rfl, fun _ => rfl, rfl, rfl,
    fun _ => rfl, fun _ => rfl, fun _ => rfl, rfl⟩

end Machine

end Sys2Proof
end

section
/-! ## Proofs of the history family: HIST_PUSH (R171, R173) -/

namespace Sys2Proof.Machine

/-- Settles O26: the sequence by `pushHistory_hist`, the ring and its pointers by the push itself. -/
theorem histPushAppendsAndEvicts : Obligations.HistPushAppendsAndEvicts := by
  intro id s
  refine ⟨_, exec_histPush id s, rfl, pushHistory_hist id s, rfl, rfl, ?_⟩
  have := s.cnt.isLt
  rw [handsBack_cnt, pushHistory_cnt]
  split <;> omega

/-- The last `n` entries of a sequence. -/
def lastOf (n : Nat) (l : List Word16) : List Word16 := l.drop (l.length - n)

/-- A push keeps the last 20 entries of the longer sequence: at most one is too many. -/
theorem pushHistory_hist_lastOf (id : Word16) (s : State) : (pushHistory id s).hist = lastOf 20 (s.hist ++ [id]) := by
  have hc := s.cnt.isLt
  have hlen := hist_length s
  rw [pushHistory_hist, lastOf, List.length_append, List.length_singleton]
  split
  next hfull =>
    rw [hfull, List.drop_append_of_le_length (by omega)]
  next hfree =>
    have hnone : s.hist.length + 1 - 20 = 0 := by omega
    rw [hnone, List.drop_zero]

/-- What is cut off before more is appended is cut off after it too. -/
theorem lastOf_append_lastOf (n : Nat) (l m : List Word16) : lastOf n (lastOf n l ++ m) = lastOf n (l ++ m) := by
  unfold lastOf
  rw [← List.drop_append_of_le_length (Nat.sub_le _ _), List.drop_drop]
  congr 1
  simp only [List.length_drop, List.length_append]
  omega

/-- Pushes one after the other keep the last 20 of what was there and what is pushed (R173). -/
theorem pushAll_hist : ∀ (ids : List Word16) (s : State),
    ∃ t, pushAll ids s = .next t ∧ t.hist = lastOf 20 (s.hist ++ ids)
  | [], s => by
    have hc := s.cnt.isLt
    have hnone : s.hist.length - 20 = 0 := by rw [hist_length]; omega
    refine ⟨s, rfl, ?_⟩
    rw [List.append_nil, lastOf, hnone, List.drop_zero]
  | id :: ids, s => by
    obtain ⟨t, hpush, ht⟩ := pushAll_hist ids (handsBack .done (pushHistory id s))
    refine ⟨t, hpush, ?_⟩
    have hone : (handsBack .done (pushHistory id s)).hist = lastOf 20 (s.hist ++ [id]) := pushHistory_hist_lastOf id s
    rw [ht, hone, lastOf_append_lastOf, List.append_assoc]
    rfl

/-- Settles O28. -/
theorem historyKeepsTheLastTwenty : Obligations.HistoryKeepsTheLastTwenty := by
  intro ids s hs
  obtain ⟨t, hpush, ht⟩ := pushAll_hist ids s
  exact ⟨t, hpush, by rw [ht, hs, List.nil_append, lastOf]⟩

end Sys2Proof.Machine
end

section
/-! ## Proofs of the identity family: HWI_DECODE, MODEL_LOOKUP and HWI_LATCH (43_identity.md) -/

namespace Sys2Proof.Machine

/-! ### The payload (O29, O30) -/

theorem exec_modelLookup (serial : Word32) (s : State) :
    exec (.modelLookup serial) s = .next (handsBack (.model (lookupModel s.cfg.modelTable serial)) s) := rfl

theorem exec_hwiDecode_eq (p : Bytes) (s : State) : exec (.hwiDecode p) s = transact .identity (decodeIdentity p) s := rfl

theorem exec_hwiLatch_eq (p : Bytes) (s : State) : exec (.hwiLatch p) s = transact .identity (decodeAndLatch p) s := rfl

theorem exec_hwiDecode {p : Bytes} (hp : p.length = 84) (s : State) :
    exec (.hwiDecode p) s = .next (handsBack (.identity (unpackIdentity s.cfg p)) s) := by
  rw [exec_hwiDecode_eq, transact_eq, decodeIdentity, if_pos hp]
  rfl

/-- Settles O29: the numbers are little-endian (`le16_toNat`, `le32_toNat`). -/
theorem hwiDecodeUnpacksTheFixedLayout : Obligations.HwiDecodeUnpacksTheFixedLayout := by
  refine fun p s => ⟨fun hp => ⟨_, exec_hwiDecode hp s, fun b hb => ?_, rfl, rfl, exec_modelLookup _ s⟩, fun hp => ?_⟩
  · simp only [hb]
    exact ⟨le32_toNat _ _ _ _, le16_toNat _ _, le32_toNat _ _ _ _, le16_toNat _ _, le16_toNat _ _, le16_toNat _ _⟩
  · rw [exec_hwiDecode_eq, transact_eq, decodeIdentity, if_neg hp]
    rfl

theorem trimmable_iff {pad : List Byte} {b : Byte} : trimmable pad b = true ↔ b = 0 ∨ b ∈ pad := by
  simp only [trimmable, Bool.or_eq_true, decide_eq_true_eq]

/-- Settles O30: `trim_spec`, with the bytes that may be trimmed written out. -/
theorem trimCutsOnlyTheTrailingRun : Obligations.TrimCutsOnlyTheTrailingRun := by
  intro pad t
  obtain ⟨cut, hsplit, hcut, hlast⟩ := trim_spec pad t
  refine ⟨cut, hsplit, fun b hb => trimmable_iff.mp (hcut b hb), fun init b hend => ?_⟩
  have hb : ¬ trimmable pad b = true := by rw [hlast b (by rw [hend, List.getLast?_concat])]; decide
  rwa [trimmable_iff, not_or] at hb

/-! ### The model (O31, O32, O59) -/

/-- Two powers of ten that leave two digits leave the same ones. -/
theorem twoDigits_unique {n j k : Nat} (hj : 10 ≤ n / 10 ^ j ∧ n / 10 ^ j ≤ 99)
    (hk : 10 ≤ n / 10 ^ k ∧ n / 10 ^ k ≤ 99) :
    n / 10 ^ j = n / 10 ^ k := by
  have hlt : ∀ {a b : Nat}, a < b → n / 10 ^ b ≤ n / 10 ^ a / 10 := fun {a b} h => by
    rw [Nat.div_div_eq_div_mul, ← pow_succ]
    exact Nat.div_le_div_left (Nat.pow_le_pow_right (by decide) h) (by positivity)
  obtain h | rfl | h := Nat.lt_trichotomy j k
  · have := hlt h; omega
  · rfl
  · have := hlt h; omega

/-- The loop of R192 ends at the two leading digits, whichever power of ten they are told by. -/
theorem prefix2_of_twoDigits {serial : Word32} {k : Nat} (hlo : 10 ≤ serial.toNat / 10 ^ k)
    (hhi : serial.toNat / 10 ^ k ≤ 99) : prefix2 serial = some (serial.toNat / 10 ^ k) := by
  obtain ⟨hsmall, -⟩ | ⟨j, p, -, hp, rfl, lo, hi⟩ := prefix2_cases serial
  · have := Nat.div_le_self serial.toNat (10 ^ k)
    omega
  · rw [hp, twoDigits_unique ⟨lo, hi⟩ ⟨hlo, hhi⟩]

theorem exec_modelLookup_of_twoDigits {serial : Word32} {k : Nat} (hlo : 10 ≤ serial.toNat / 10 ^ k)
    (hhi : serial.toNat / 10 ^ k ≤ 99) (s : State) :
    exec (.modelLookup serial) s =
      .next (handsBack (.model (s.cfg.modelTable.lookup (serial.toNat / 10 ^ k))) s) := by
  rw [exec_modelLookup, lookupModel, prefix2_of_twoDigits hlo hhi]
  rfl

/-- Well-formed parameters list the known row (R9, R191). -/
theorem lookup_known {c : Config} (h : c.wf = true) : c.modelTable.lookup 40 = some knownModel := by
  rw [Config.wf, Bool.and_eq_true, decide_eq_true_eq] at h
  exact h.2

/-- Settles O31. -/
theorem modelLookupUsesTheTwoLeadingDigits : Obligations.ModelLookupUsesTheTwoLeadingDigits := by
  refine fun serial s => ⟨fun hsmall => ?_, fun hbig => ?_, fun k hlo hhi => ⟨?_, fun hwf h40 => ?_⟩⟩
  · rw [exec_modelLookup, lookupModel, prefix2, if_pos hsmall]
    rfl
  · obtain ⟨hsmall, -⟩ | ⟨j, p, -, -, rfl, lo, hi⟩ := prefix2_cases serial
    · omega
    · exact ⟨j, lo, hi⟩
  · exact exec_modelLookup_of_twoDigits hlo hhi s
  · rw [exec_modelLookup_of_twoDigits hlo hhi, h40, lookup_known hwf]
    rfl

/-- Settles O59: the table of reset lists every key of 10..99 that has a row (`lookup_tableRows`). -/
theorem resetAssumesOnlyTheKnownModelRow : Obligations.ResetAssumesOnlyTheKnownModelRow := by
  refine ⟨rfl, fun serial s hcfg k hlo hhi => ?_⟩
  have hrow : s.cfg.modelTable.lookup (serial.toNat / 10 ^ k) = Config.modelRow (serial.toNat / 10 ^ k) := by
    rw [hcfg]
    exact (lookup_tableRows _ _ _).trans (if_pos (List.mem_range'_1.mpr (by omega)))
  rw [exec_modelLookup_of_twoDigits hlo hhi, hrow, Config.modelRow]
  exact ⟨fun h40 => by rw [if_pos h40], fun hne => by rw [if_neg hne]⟩

/-- The model key the cache gets for a record: the number of the serial number where the model is known (R196). -/
def cacheKey (r : HardwareIdentity) : Option (BitVec 7) :=
  match r.model with
  | none => none
  | some _ => (prefix2 r.serialNumber).map (BitVec.ofNat 7)

theorem latchIdentity_eq (r : HardwareIdentity) (s : State) :
    latchIdentity r s = { s with ident := some ⟨r.serialNumber, cacheKey r, r.channelCount⟩ } := rfl

theorem cacheKey_of_none {r : HardwareIdentity} (h : r.model = none) : cacheKey r = none := by
  rw [cacheKey, h]

/-- The key is that of the serial number (R192), and the table has the model under it. -/
theorem cacheKey_of_some {c : Config} {p : Bytes} {m : ModelEntry} (h : (unpackIdentity c p).model = some m) :
    ∃ k, cacheKey (unpackIdentity c p) = some k ∧ prefix2 (unpackIdentity c p).serialNumber = some k.toNat ∧
      c.modelTable.lookup k.toNat = some m := by
  obtain ⟨q, hq, hrow, hkey⟩ := lookupModel_some h
  have hq : prefix2 (unpackIdentity c p).serialNumber = some q := hq
  refine ⟨BitVec.ofNat 7 q, ?_, by rw [hkey, hq], by rw [hkey, hrow]⟩
  rw [cacheKey, h, hq]
  rfl

theorem decodeAndLatch_of_length {p : Bytes} (hp : p.length = 84) (s : State) :
    decodeAndLatch p s = ret (unpackIdentity s.cfg p) (latchIdentity (unpackIdentity s.cfg p) s) := by
  rw [decodeAndLatch, decodeIdentity, if_pos hp]
  rfl

theorem decodeAndLatch_of_badLength {p : Bytes} (hp : p.length ≠ 84) (s : State) :
    decodeAndLatch p s = raise (.badInfoLength p.length) s := by
  rw [decodeAndLatch, decodeIdentity, if_neg hp]
  rfl

/-- Settles O32. -/
theorem hwiLatchFillsTheCacheOrLeavesIt : Obligations.HwiLatchFillsTheCacheOrLeavesIt := by
  refine fun p s => ⟨fun hp => ⟨_, cacheKey (unpackIdentity s.cfg p), exec_hwiDecode hp s, ?_, cacheKey_of_none,
    fun m hm => ?_⟩, fun hp => ?_⟩
  · rw [exec_hwiLatch_eq, transact_eq, decodeAndLatch_of_length hp]
    rfl
  · obtain ⟨k, hk, hprefix, hrow⟩ := cacheKey_of_some hm
    obtain ⟨lo, hi⟩ := prefix2_range hprefix
    refine ⟨k, hk, lo, hi, hrow, ?_⟩
    obtain ⟨-, hnone⟩ | ⟨j, q, -, hq, hdiv, -, -⟩ := prefix2_cases (unpackIdentity s.cfg p).serialNumber
    · rw [hprefix] at hnone; cases hnone
    · rw [hprefix] at hq
      exact ⟨j, by rw [← hdiv]; exact (Option.some.inj hq).symm⟩
  · rw [exec_hwiLatch_eq, transact_eq, decodeAndLatch_of_badLength hp]
    rfl

end Sys2Proof.Machine
end

section
/-! ## Proofs of the configuration family: reset, INIT (R210) and CR_RD (R215) -/

namespace Sys2Proof.Machine

/-- Settles O33: the reset block with SRC and DEST set; without a destination the error comes after SRC (R210). -/
theorem initStartsANewConnection : Obligations.InitStartsANewConnection := by
  intro source destination s
  cases destination <;>
    exact ⟨_, rfl, rfl, rfl, rfl, rfl, rfl, rfl, rfl, rfl, rfl, rfl, rfl, rfl, rfl, rfl, rfl, rfl, rfl, rfl, rfl, rfl, rfl⟩

/-- Settles O1: the registers of R42, and the column "reset" of R40 read off them. -/
theorem resetLeavesTheBlockUnconfigured : Obligations.ResetLeavesTheBlockUnconfigured := by
  have hread : ∀ p ∈ [(0, 0x1), (1, 0x0), (2, 0x0), (3, 0x2), (4, 0x4), (5, 0x0), (6, 0x0), (7, 0x0), (8, 0x0), (9, 0x0),
      (10, 0x0), (16, 0x0), (35, 0x0)], State.reset.controlRegister p.1 = some p.2 := by decide
  exact ⟨rfl, rfl, rfl, rfl, rfl, rfl, rfl, rfl, rfl, rfl, rfl, rfl, rfl, fun n v h => exec_crRd_of_some (hread (n, v) h)⟩

/-! ### The register table (O35) -/

/-- An optional field below its valid bit, as the number of R40. -/
theorem validField_eq {n k : Nat} (v : Option (BitVec n)) (hn : n ≤ k) (hk : k < 32) :
    validField v k = BitVec.ofNat 32 (fieldNumber v k) := by
  cases v with
  | none => rfl
  | some x =>
    apply BitVec.eq_of_toNat_eq
    have hx : x.toNat < 2 ^ k := x.isLt.trans_le (Nat.pow_le_pow_right two_pos hn)
    have hk' : 2 ^ (k + 1) ≤ 2 ^ 32 := Nat.pow_le_pow_right two_pos hk
    rw [validField_some_toNat x hn hk, BitVec.toNat_ofNat, fieldNumber, Nat.mod_eq_of_lt (by rw [pow_succ] at hk'; omega)]
    omega

theorem flagsWord_eq (handler verbose : Bool) :
    bitAt handler 0 ||| bitAt verbose 1 = BitVec.ofNat 32 (handler.toNat + 2 * verbose.toNat) := by
  cases handler <;> cases verbose <;> rfl

/-- CR4 as a word, flag by flag (R40). -/
theorem statusWord_eq : ∀ a b c d : Bool, bitAt a 0 ||| bitAt b 1 ||| bitAt c 2 ||| bitAt d 3 =
    BitVec.ofNat 32 (a.toNat + 2 * b.toNat + 4 * c.toNat + 8 * d.toNat) := by
  decide

theorem histEmpty_eq (s : State) : s.histEmpty = decide (s.hist = []) := by
  rw [Bool.eq_iff_iff, histEmpty_iff, decide_eq_true_eq]

theorem histFull_eq (s : State) : s.histFull = decide (s.hist.length = 20) := by
  rw [Bool.eq_iff_iff, histFull_iff, decide_eq_true_eq]

/-- Two tables with the same conditions correspond where their rows do. -/
theorem ite_eq_map_ite {α β : Type} {p : Prop} [Decidable p] {f : α → β} {a b : Option β} {x y : Option α}
    (hthen : a = x.map f) (helse : b = y.map f) : (if p then a else b) = (if p then x else y).map f := by
  split
  · exact hthen
  · exact helse

/-- The register file is the table of R40 in 32-bit words. -/
theorem controlRegister_eq (s : State) (n : Nat) : s.controlRegister n = (crTable s n).map (BitVec.ofNat 32) := by
  have hident : ∀ {w : Nat} (get : IdCache → BitVec w), ((s.ident.map get).getD 0).setWidth 32 =
      BitVec.ofNat 32 (match s.ident with | some c => (get c).toNat | none => 0) := fun {w} get => by
    cases s.ident with
    | none => simp
    | some c => exact (BitVec.ofNat_toNat 32 (get c)).symm
  unfold State.controlRegister crTable
  refine ite_eq_map_ite (congrArg some (BitVec.ofNat_toNat ..).symm) ?_
  refine ite_eq_map_ite (congrArg some (validField_eq s.dest le_rfl (by decide))) ?_
  refine ite_eq_map_ite (congrArg some (validField_eq s.suid le_rfl (by decide))) ?_
  refine ite_eq_map_ite (congrArg some (flagsWord_eq s.handler s.verbose)) ?_
  refine ite_eq_map_ite (congrArg some ?_) ?_
  · rw [histEmpty_eq, histFull_eq, statusWord_eq]
  refine ite_eq_map_ite (congrArg some (by rw [hist_length])) ?_
  refine ite_eq_map_ite rfl ?_
  refine ite_eq_map_ite (congrArg some (by rw [newest_eq, validField_eq _ le_rfl (by decide)])) ?_
  refine ite_eq_map_ite (congrArg some (.trans (by rw [BitVec.setWidth_eq]) (hident IdCache.serial))) ?_
  refine ite_eq_map_ite (congrArg some (validField_eq s.idPrefix le_rfl (by decide))) ?_
  refine ite_eq_map_ite (congrArg some (hident IdCache.nch)) ?_
  exact ite_eq_map_ite (congrArg some (by rw [hist_getElem?, validField_eq _ le_rfl (by decide)])) rfl

theorem ite_some_eq_none {α : Type} {p : Prop} [Decidable p] {v : α} {o : Option α} :
    (if p then some v else o) = none ↔ ¬ p ∧ o = none := by
  split <;> simp [*]

/-- The numbers without a register. -/
theorem crTable_eq_none {s : State} {n : Nat} : crTable s n = none ↔ (11 ≤ n ∧ n ≤ 15) ∨ 36 ≤ n := by
  unfold crTable
  simp only [ite_some_eq_none, and_true]
  omega

theorem exec_crRd (n : Nat) (s : State) :
    exec (.crRd n) s = .next (handsBack ((s.controlRegister n).elim (.error (.badRegister n)) .value) s) :=
  transact_orRaise .value (s.controlRegister n) (.badRegister n) s

/-- Settles O35. -/
theorem crRdReadsTheRegisterTable : Obligations.CrRdReadsTheRegisterTable := by
  refine fun n s => ⟨?_, crTable_eq_none⟩
  rw [exec_crRd, controlRegister_eq]
  cases crTable s n <;> rfl

end Sys2Proof.Machine
end

section
/-! ## Proofs of the host-sequence family: QUERY, WRITE and what the sequences do with an answer (45_host_sequences.md) -/

namespace Sys2Proof.Machine

/-! ### The sequences as transactions -/

section
variable (s : State)

theorem exec_query_eq (id : Word16) (p1 p2 : Byte) : exec (.query id p1 p2) s = transact .message (runQuery id p1 p2) s := rfl

theorem exec_write_eq (id : Word16) (p1 p2 : Byte) :
    exec (.write id p1 p2) s = transact (fun _ : Unit => .done) (runWrite id p1 p2) s := rfl

theorem exec_getHwInfo_eq : exec .getHwInfo s = transact .identity runGetHwInfo s := rfl

theorem exec_setChannelState_eq (c : Nat) (e : Bool) :
    exec (.setChannelState c e) s = transact (fun _ : Unit => .done) (runSetChannelState c e) s := rfl

theorem exec_getChannelState_eq (c : Nat) :
    exec (.getChannelState c) s = transact .channelState (runGetChannelState c) s := rfl

end

/-! ### Checks before anything is sent (O36, O37) -/

/-- A transaction whose body raises at once changes nothing but for the reply. -/
theorem transact_of_raise {α : Type} {f : α → Reply} {body : State → Run α} {e : ErrorKind} {s : State}
    (h : body { s with busy := true } = raise e { s with busy := true }) :
    transact f body s = .next (handsBack (.error e) s) := by
  rw [transact_eq, h]
  rfl

/-- The bit flag of a channel is its identity byte (R102, R231). -/
theorem channelIdent_of_flag {c : Nat} {ident : Byte} (h1 : 1 ≤ c) (h4 : c ≤ 4) (hi : ident.toNat = 2 ^ (c - 1)) :
    channelIdent c = some ident := by
  have hident : ident = BitVec.ofNat 8 (2 ^ (c - 1)) := by rw [← hi, BitVec.ofNat_toNat, BitVec.setWidth_eq]
  subst hident
  interval_cases c <;> rfl

theorem channelIdent_unknown {c : Nat} (h : c = 0 ∨ 5 ≤ c) : channelIdent c = none := by
  rw [channelIdent, if_neg (by omega), if_neg (by omega), if_neg (by omega), if_neg (by omega)]

section
variable {s : State} {id : Word16} {p1 p2 d : Byte}

/-- The state from which QUERY runs CLS_RUN: flushed, pushed and sent (R227). -/
def requested (id : Word16) (p1 p2 d : Byte) (s : State) : State := pushAndSend id p1 p2 d (rxFlush s)

theorem runQuery_unset (h : s.dest = none) : runQuery id p1 p2 s = raise .noDestination s := by
  rw [runQuery, needDest, h]
  rfl

theorem runWrite_unset (h : s.dest = none) : runWrite id p1 p2 s = raise .noDestination s := by
  rw [runWrite, needDest, h]
  rfl

theorem runQuery_set (h : s.dest = some d) : runQuery id p1 p2 s = clsRun (requested id p1 p2 d s) := by
  rw [runQuery, needDest, h]
  rfl

theorem runWrite_set (h : s.dest = some d) : runWrite id p1 p2 s = ret () (pushAndSend id p1 p2 d s) := by
  rw [runWrite, needDest, h]
  rfl

variable {c : Nat} {ident : Byte}

theorem runGetChannelState_known (h : channelIdent c = some ident) (s : State) :
    runGetChannelState c s = (runQuery idGetChannelState ident 0 s).andThen fun m s =>
      (shortParam2 m s).andThen fun b s => orRaise (decodeChannelState b) (.badChannelState b) s := by
  rw [runGetChannelState, h]
  rfl

theorem runSetChannelState_write {e : Bool} (h : channelIdent c = some ident) (ha : s.cfg.setchAck = .write) :
    runSetChannelState c e s = runWrite idSetChannelState ident (encodeChannelState e) s := by
  rw [runSetChannelState, h, orRaise_some, andThen_ret, ha]

theorem runSetChannelState_query {e : Bool} (h : channelIdent c = some ident) (ha : s.cfg.setchAck = .query) :
    runSetChannelState c e s =
      (runQuery idSetChannelState ident (encodeChannelState e) s).andThen fun _ s => ret () s := by
  rw [runSetChannelState, h, orRaise_some, andThen_ret, ha]

end

/-- Settles O37: the channel is looked up before anything else. -/
theorem unknownChannelTouchesNothing : Obligations.UnknownChannelTouchesNothing := by
  intro c e s hc
  have hnone := channelIdent_unknown hc
  refine ⟨transact_of_raise (body := runSetChannelState c e) ?_, transact_of_raise (body := runGetChannelState c) ?_⟩
  · rw [runSetChannelState, hnone, orRaise_none, andThen_raise]
  · rw [runGetChannelState, hnone, orRaise_none, andThen_raise]

/-- The channels 1 to 4 have an identity byte. -/
theorem channelIdent_known {c : Nat} (h1 : 1 ≤ c) (h4 : c ≤ 4) : ∃ ident, channelIdent c = some ident := by
  interval_cases c <;> exact ⟨_, rfl⟩

/-- Settles O36: DEST is asked for before the flush, the push and the send. -/
theorem unconfiguredSequencesDoNothing : Obligations.UnconfiguredSequencesDoNothing := by
  intro i s hd hi
  have hd' : ({ s with busy := true } : State).dest = none := hd
  obtain ⟨id, p1, p2, rfl | rfl⟩ | rfl | ⟨c, h1, h4, hc⟩ := hi
  · exact transact_of_raise (runQuery_unset hd')
  · exact transact_of_raise (runWrite_unset hd')
  · refine transact_of_raise (body := runGetHwInfo) ?_
    rw [runGetHwInfo, runQuery_unset hd', andThen_raise]
  · obtain ⟨ident, hident⟩ := channelIdent_known h1 h4
    obtain rfl | ⟨e, rfl⟩ := hc
    · refine transact_of_raise (body := runGetChannelState c) ?_
      rw [runGetChannelState_known hident, runQuery_unset hd', andThen_raise]
    · refine transact_of_raise (body := runSetChannelState c e) ?_
      cases ha : s.cfg.setchAck with
      | write => rw [runSetChannelState_write (s := { s with busy := true }) hident ha, runWrite_unset hd']
      | query => rw [runSetChannelState_query (s := { s with busy := true }) hident ha, runQuery_unset hd', andThen_raise]

/-! ### The send (O38, O39) -/

theorem pushAndSend_eq (id : Word16) (p1 p2 d : Byte) (s : State) :
    pushAndSend id p1 p2 d s = { pushHistory id s with txlog := s.txlog ++ requestBytes id p1 p2 d s.src } := by
  rw [← encodeShort_eq_requestBytes]
  rfl

/-- A push on the sequence (R171). -/
theorem pushAndSend_hist (id : Word16) (p1 p2 d : Byte) (s : State) :
    (pushAndSend id p1 p2 d s).hist = appendCapped s.hist id :=
  pushHistory_hist id s

/-- Settles O38. -/
theorem writePushesAndSends : Obligations.WritePushesAndSends := by
  intro id p1 p2 d s hd
  have hbody : runWrite id p1 p2 { s with busy := true } = _ := runWrite_set hd
  refine ⟨finish .done (pushAndSend id p1 p2 d { s with busy := true }), ?_, rfl, ?_, pushAndSend_hist id p1 p2 d _,
    rfl, rfl⟩
  · rw [exec_write_eq, transact_eq, hbody]
    rfl
  · rw [pushAndSend_eq]
    rfl

/-- Settles O39. -/
theorem queryIsFlushPushSendRun : Obligations.QueryIsFlushPushSendRun := by
  intro id p1 p2 d s hd
  have hbody : runQuery id p1 p2 { s with busy := true } = _ := runQuery_set hd
  refine ⟨pushHistory id { s with rxbuf := [] }, .done, rfl, ?_⟩
  rw [exec_query_eq, transact_eq, hbody, requested, pushAndSend_eq]
  rfl

/-! ### A whole answer that arrives (O40) -/

section
variable {s : State} {b : Bytes}

theorem deliver_single (hi : s.incoming = [b]) : deliver s = { s with rxbuf := s.rxbuf ++ b, incoming := [] } := by
  rw [deliver, hi]

/-- Where one chunk is still to arrive, it arrives at the header read: CLS_STEP cannot tell it from one that had arrived. -/
theorem clsStep_deliver (hi : s.incoming = [b]) : clsStep (deliver s) = clsStep s := by
  have hnil : (deliver s).incoming = [] := by rw [deliver_single hi]
  have hread : atRead 6 (deliver s) = atRead 6 s := atRead_of_nil hnil
  have hafter : afterRead 6 (deliver s) = afterRead 6 s := by rw [afterRead, hread, afterRead]
  rw [clsStep_eq, clsStep_eq, readHeader_eq, readHeader_eq, hread, hafter]

theorem clsRun_deliver (hi : s.incoming = [b]) : clsRun (deliver s) = clsRun s := by
  have hcnt : setDrainCnt 0 (deliver s) = deliver (setDrainCnt 0 s) := by
    rw [deliver_single hi, deliver_single (s := setDrainCnt 0 s) hi]
    rfl
  rw [clsRun, clsRun, hcnt, deliver_cfg, drain_turn, drain_turn, clsStep_deliver (s := setDrainCnt 0 s) hi]

end

section
variable {s : State} {id : Word16} {p1 p2 d : Byte} {l : List (Frame × Bytes)} {a : Frame} {data rest : Bytes}

/-- QUERY ended with answer `a`, as CLS_RUN does, and wrote TX and the history once; the cache, the parameters and the replies
are as they were. -/
structure Queried (id : Word16) (p1 p2 d : Byte) (l : List (Frame × Bytes)) (a : Frame) (rest : Bytes) (s t : State) : Prop
    extends Answered l a rest s t where
  txlog : t.txlog = s.txlog ++ requestBytes id p1 p2 d s.src
  hist : t.hist = appendCapped s.hist id
  ident : t.ident = s.ident
  cfg : t.cfg = s.cfg
  replies : t.replies = s.replies

/-- The body of QUERY on a whole answer that arrives behind at most DRAIN_MAX unsolicited frames, all of them classified with
the sent id as the newest (R227, R296). -/
theorem runQuery_answered (hd : s.dest = some d) (hi : s.incoming = [wires l ++ wire a data ++ rest])
    (hl : ∀ p ∈ l, unsolicited p.1 = true ∧ goodFrame (contextAfterPush s id) s.handler p = true)
    (hmax : l.length ≤ s.cfg.drainMax) (ha : unsolicited a = false)
    (hg : goodFrame (contextAfterPush s id) s.handler (a, data) = true) :
    ∃ t, runQuery id p1 p2 s = ret (frameMessage a data) t ∧ Queried id p1 p2 d l a rest s t := by
  have hctx : (requested id p1 p2 d s).frameContext = contextAfterPush s id := frameContext_pushHistory id (rxFlush s)
  have harrive := deliver_single (s := requested id p1 p2 d s) hi
  obtain ⟨t, hrun, ht⟩ := clsRun_answered (s := deliver (requested id p1 p2 d s)) (l := l) (a := a) (data := data)
    (rest := rest) (by rw [harrive]) (by rw [harrive]; rfl) (by rw [harrive]; exact hctx ▸ hl)
    (by rw [harrive]; exact hmax) ha (by rw [harrive]; exact hctx ▸ hg)
  rw [clsRun_deliver (s := requested id p1 p2 d s) hi] at hrun
  have hquery : runQuery id p1 p2 s = ret (frameMessage a data) t := (runQuery_set hd).trans hrun
  have hafter : ∀ {g : Group}, g ∉ clsRunWrites → g.same (requested id p1 p2 d s) t := fun hg => by
    simpa [hrun] using keeps_clsRun hg (requested id p1 p2 d s)
  have hwhole : ∀ {g : Group}, g ∉ .history :: .tx :: clsRunWrites → g.same s t := fun hg => by
    simpa [hquery] using keeps_runQuery id p1 p2 hg s
  obtain ⟨-, -, hreplies⟩ := (does_runQuery (ok := True) id p1 p2 s).lock
  rw [hquery] at hreplies
  refine ⟨t, hquery, { ht with
    notelog := ht.notelog.trans (by rw [harrive]; rfl)
    statuslog := ht.statuslog.trans (by rw [harrive]; rfl)
    txlog := (hafter (g := .tx) (by decide)).trans (by rw [requested, pushAndSend_eq]; rfl)
    hist := (hist_congr (hafter (g := .history) (by decide))).trans (pushAndSend_hist id p1 p2 d (rxFlush s))
    ident := hwhole (g := .cache) (by decide)
    cfg := hwhole (g := .params) (by decide)
    replies := hreplies }⟩

end

/-- Settles O40. -/
theorem queryReturnsTheAnswerThatArrives : Obligations.QueryReturnsTheAnswerThatArrives := by
  intro s id p1 p2 d l a data rest hd hi hl hmax ha hg
  obtain ⟨t, hrun, ht⟩ := runQuery_answered (s := { s with busy := true }) (p1 := p1) (p2 := p2) hd hi hl hmax ha hg
  refine ⟨finish (.message (frameMessage a data)) t, ?_, congrArg (· ++ [_]) ht.replies, ht.rxbuf, ht.incoming, ht.txlog,
    ht.hist, ht.drainCnt, ht.notelog, ht.statuslog⟩
  rw [exec_query_eq, transact_eq, hrun]
  rfl

/-! ### What the sequences do with their message -/

/-- GET_HW_INFO from the message on (R230). -/
def latchAnswer (m : Message) (s : State) : Run HardwareIdentity :=
  (longBytes m s).andThen fun p s => decodeAndLatch p s

/-- GET_CHANNEL_STATE from the message on (R234). -/
def channelAnswer (m : Message) (s : State) : Run Bool :=
  (shortParam2 m s).andThen fun b s => orRaise (decodeChannelState b) (.badChannelState b) s

theorem runGetHwInfo_eq (s : State) : runGetHwInfo s = (runQuery 0x0005 0 0 s).andThen latchAnswer := rfl

theorem runGetChannelState_eq {c : Nat} {ident : Byte} (h : channelIdent c = some ident) (s : State) :
    runGetChannelState c s = (runQuery 0x0211 ident 0 s).andThen channelAnswer :=
  runGetChannelState_known h s

theorem latchAnswer_long {m : Message} {n : Word16} {p : Bytes} (h : m.body = .longData n p) (s : State) :
    latchAnswer m s = decodeAndLatch p s := by
  rw [latchAnswer, longBytes, h]
  rfl

theorem latchAnswer_short {m : Message} {p1 p2 : Byte} (h : m.body = .shortParams p1 p2) (s : State) :
    latchAnswer m s = raise .infoNotLong s := by
  rw [latchAnswer, longBytes, h]
  rfl

theorem keeps_latchAnswer {g : Group} (hg : g ≠ .cache) (m : Message) : Keeps g (latchAnswer m) :=
  keeps_andThen (keeps_longBytes m) fun p => keeps_decodeAndLatch p hg

/-- The reply is param2 mapped back (R232); no state is written. -/
theorem channelAnswer_eq (m : Message) (s : State) :
    (channelAnswer m s).1 = s ∧ (channelAnswer m s).2.reply .channelState = channelReply m.body := by
  rw [channelAnswer, shortParam2]
  cases m.body with
  | longData n p => exact ⟨rfl, rfl⟩
  | shortParams p1 p2 =>
    dsimp only
    rw [andThen_ret, orRaise_fst, decodeChannelState, channelReply]
    refine ⟨rfl, ?_⟩
    split
    · rfl
    · split <;> rfl

/-- GET_HW_INFO behind a QUERY that returned a message. -/
theorem exec_getHwInfo_of_message {s t : State} {m : Message}
    (h : runQuery 0x0005 0 0 { s with busy := true } = ret m t) :
    exec .getHwInfo s = .next (finish ((latchAnswer m t).2.reply .identity) (latchAnswer m t).1) := by
  rw [exec_getHwInfo_eq, transact_eq, runGetHwInfo_eq, h]
  rfl

/-- GET_CHANNEL_STATE behind a QUERY that returned a message: the reply is the one thing it adds. -/
theorem exec_getChannelState_of_message {s t : State} {m : Message} {c : Nat} {ident : Byte}
    (hc : channelIdent c = some ident) (h : runQuery 0x0211 ident 0 { s with busy := true } = ret m t) :
    exec (.getChannelState c) s = .next (finish (channelReply m.body) t) := by
  obtain ⟨hstate, hreply⟩ := channelAnswer_eq m t
  rw [exec_getChannelState_eq, transact_eq, runGetChannelState_eq hc, h, andThen_ret, hstate, hreply]

/-- An answer is long or short by its class. -/
theorem frameMessage_body {a : Frame} (ha : unsolicited a = false) (data : Bytes) :
    (longForm a = true ∧ ∃ n, (frameMessage a data).body = .longData n data) ∨
      (longForm a = false ∧ ∃ p1 p2, (frameMessage a data).body = .shortParams p1 p2) := by
  cases a with
  | hwResponse p1 p2 d c => cases ha
  | hwRichResponse l d c => cases ha
  | statusUpdate i l d c => cases ha
  | answerLong i l d c => exact .inl ⟨rfl, l, rfl⟩
  | answerShort i p1 p2 d c => exact .inr ⟨rfl, p1, p2, rfl⟩

/-- The key of the cache as a number: the leading digits where the model is known. -/
theorem cacheKey_toNat (c : Config) (p : Bytes) :
    (cacheKey (unpackIdentity c p)).map BitVec.toNat =
      if (unpackIdentity c p).model.isSome then prefix2 (unpackIdentity c p).serialNumber else none := by
  cases hm : (unpackIdentity c p).model with
  | none => rw [cacheKey_of_none hm]; rfl
  | some m =>
    obtain ⟨k, hk, hprefix, -⟩ := cacheKey_of_some hm
    rw [hk, hprefix]
    rfl

/-- Settles O41: the cache is the one group that the rest of the sequence writes behind its QUERY. -/
theorem getHwInfoDecodesAndCachesTheAnswer : Obligations.GetHwInfoDecodesAndCachesTheAnswer := by
  intro s d l a data rest hd hi hl hmax ha hg
  obtain ⟨t, hrun, ht⟩ := runQuery_answered (s := { s with busy := true }) (p1 := 0) (p2 := 0) hd hi hl hmax ha hg
  have hsame : ∀ {g}, g ≠ Group.cache → g.same t (latchAnswer (frameMessage a data) t).1 :=
    fun hne => keeps_latchAnswer hne _ t
  have hrx : _ ∧ _ := hsame (g := .rx) (by decide)
  have hhist := hist_congr (hsame (g := .history) (by decide))
  refine ⟨_, exec_getHwInfo_of_message hrun, (hsame (g := .tx) (by decide)).trans ht.txlog, hhist.trans ht.hist, hrx.1.trans ht.rxbuf,
    (hsame (g := .notes) (by decide)).trans ht.notelog, (hsame (g := .statuses) (by decide)).trans ht.statuslog, ?_⟩
  obtain ⟨hlong, n, hbody⟩ | ⟨hshort, p1, p2, hbody⟩ := frameMessage_body ha data
  · rw [latchAnswer_long hbody, hlong]
    refine ⟨fun _ h84 => ?_, fun _ h84 => ?_, nofun⟩
    · rw [decodeAndLatch_of_length h84, ht.cfg, latchIdentity_eq]
      exact ⟨congrArg (· ++ [_]) ht.replies, _, rfl, cacheKey_toNat s.cfg data⟩
    · rw [decodeAndLatch_of_badLength h84]
      exact ⟨congrArg (· ++ [_]) ht.replies, ht.ident⟩
  · rw [latchAnswer_short hbody, hshort]
    exact ⟨nofun, nofun, fun _ => ⟨congrArg (· ++ [_]) ht.replies, ht.ident⟩⟩

/-- Settles O43. -/
theorem getChannelStateMapsTheAnswerBack : Obligations.GetChannelStateMapsTheAnswerBack := by
  intro s c d ident l a data rest h1 h4 hident hd hi hl hmax ha hg
  obtain ⟨t, hrun, ht⟩ := runQuery_answered (s := { s with busy := true }) (p1 := ident) (p2 := 0) hd hi hl hmax ha hg
  exact ⟨_, exec_getChannelState_of_message (channelIdent_of_flag h1 h4 hident) hrun, ht.txlog, ht.hist, ht.rxbuf, ht.notelog,
    ht.statuslog, congrArg (· ++ [_]) ht.replies⟩

/-! ### Any answer and any error of the QUERY (O42, O44, O58) -/

section
variable {s t : State} {id : Word16} {p1 p2 : Byte}

/-- The reply at the end of a transaction is that of its body. -/
theorem reply_of_transact {α : Type} {f : α → Reply} {body : State → Run α} {r : Reply}
    (h : transact f body s = .next t) (hr : t.replies = s.replies ++ [r]) :
    (body { s with busy := true }).2.reply f = r := by
  rw [transact_eq] at h
  cases h
  rw [finish_replies] at hr
  simpa using congrArg List.getLast? hr

/-- A transaction that replies an error: its body raised it. -/
theorem raised_of_transact {α : Type} {f : α → Reply} {body : State → Run α} {e : ErrorKind}
    (h : transact f body s = .next t) (hr : t.replies = s.replies ++ [.error e]) (hf : ∀ v, f v ≠ .error e) :
    ∃ u, body { s with busy := true } = raise e u ∧ t = finish (.error e) u := by
  have hreply := reply_of_transact h hr
  rw [transact_eq, hreply] at h
  refine ⟨_, ?_, (Host.Outcome.next.inj h).symm⟩
  obtain ⟨v, hv⟩ | ⟨k, hk⟩ := run_cases (body { s with busy := true })
  · rw [hv] at hreply
    exact absurd hreply (hf v)
  · rw [hk] at hreply
    cases hreply
    exact hk

/-- A QUERY that replies a message: its body returned it, with the lock taken and the replies as they were. -/
theorem runQuery_of_message {m : Message} (h : exec (.query id p1 p2) s = .next t)
    (hr : t.replies = s.replies ++ [.message m]) :
    ∃ u, runQuery id p1 p2 { s with busy := true } = ret m u ∧ t = finish (.message m) u ∧ u.busy = true ∧
      u.replies = s.replies := by
  have hreply := reply_of_transact (f := .message) (body := runQuery id p1 p2) h hr
  obtain ⟨hb, -, hu⟩ := (does_runQuery (ok := True) id p1 p2 { s with busy := true }).lock
  rw [exec_query_eq, transact_eq, hreply] at h
  refine ⟨_, ?_, (Host.Outcome.next.inj h).symm, hb, hu⟩
  obtain ⟨v, hv⟩ | ⟨e, he⟩ := run_cases (runQuery id p1 p2 { s with busy := true })
  · rw [hv] at hreply
    cases hreply
    exact hv
  · rw [he] at hreply
    cases hreply

end

/-- Settles O42. -/
theorem setChannelStateSendsItsFrame : Obligations.SetChannelStateSendsItsFrame := by
  intro c e d ident s h1 h4 hident hd
  have hknown := channelIdent_of_flag h1 h4 hident
  have hquery : s.cfg.setchAck = .query → ∀ r,
      runQuery 0x0210 ident (encodeChannelState e) { s with busy := true } = r →
      exec (.setChannelState c e) s = .next (finish ((r.andThen fun _ s => ret () s).2.reply fun _ => .done)
        (r.andThen fun _ s => ret () s).1) := by
    rintro hack r rfl
    rw [exec_setChannelState_eq, transact_eq, runSetChannelState_query (s := { s with busy := true }) hknown hack]
  refine ⟨fun hack => ?_, fun hack t ht => ⟨fun m hm => ?_, fun k hk => ?_⟩⟩
  · have hbody : runSetChannelState c e { s with busy := true } =
        runWrite 0x0210 ident (encodeChannelState e) { s with busy := true } := runSetChannelState_write hknown hack
    have hwrite : exec (.setChannelState c e) s = exec (.write 0x0210 ident (encodeChannelState e)) s := by
      rw [exec_setChannelState_eq, exec_write_eq, transact_eq, transact_eq, hbody]
    obtain ⟨t, ht, hreplies, htx, hhist, -, -⟩ := writePushesAndSends 0x0210 ident (encodeChannelState e) d s hd
    exact ⟨hwrite, t, hwrite.trans ht, hreplies, htx, hhist⟩
  · obtain ⟨u, hrun, rfl, -, hreplies⟩ := runQuery_of_message ht hm
    rw [hquery hack _ hrun, ← hreplies]
    rfl
  · obtain ⟨u, hrun, rfl⟩ := raised_of_transact (f := .message) (body := runQuery _ _ _) ht hk nofun
    rw [hquery hack _ hrun]
    rfl

/-- Settles O44: what follows the QUERY does not run. -/
theorem sequencesReturnTheErrorsOfTheirQuery : Obligations.SequencesReturnTheErrorsOfTheirQuery := by
  intro s t e hr
  refine ⟨fun h => ?_, fun c ident h1 h4 hident h => ?_⟩ <;>
    obtain ⟨u, hrun, rfl⟩ := raised_of_transact (f := .message) (body := runQuery _ _ _) h hr nofun
  · rw [exec_getHwInfo_eq, transact_eq, runGetHwInfo_eq, hrun]
    rfl
  · rw [exec_getChannelState_eq, transact_eq, runGetChannelState_eq (channelIdent_of_flag h1 h4 hident), hrun]
    rfl

/-- Settles O58: the rest of the sequence runs from the state of the QUERY, under the lock. -/
theorem sequencesUseTheMessageOfTheirQuery : Obligations.SequencesUseTheMessageOfTheirQuery := by
  intro s t m hr
  refine ⟨fun h => ?_, fun c ident h1 h4 hident h => ?_⟩ <;>
    obtain ⟨u, hrun, rfl, hbusy, hreplies⟩ := runQuery_of_message h hr
  · have hexec := exec_getHwInfo_of_message hrun
    have hback : ({ finish (.message m) u with replies := s.replies, busy := true } : State) = u := by
      rw [← hreplies, ← hbusy]
      rfl
    refine ⟨fun n p hbody => ?_, fun p1 p2 hbody => ?_⟩
    · rw [hexec, latchAnswer_long hbody, exec_hwiLatch_eq, transact_eq, hback]
    · rw [hexec, latchAnswer_short hbody, ← hreplies]
      rfl
  · rw [exec_getChannelState_of_message (channelIdent_of_flag h1 h4 hident) hrun, ← hreplies]
    rfl

end Sys2Proof.Machine
end

section
/-! ## Proofs of the whole-machine family: which instruction ends with which error (R260) -/

namespace Sys2Proof.Machine

/-- Where the body raises, `P` holds of the error. -/
def Raises {α : Type} (P : ErrorKind → Prop) (body : State → Run α) : Prop := ∀ s e t, body s = raise e t → P e

section
variable {α β : Type} {P Q : ErrorKind → Prop}

theorem Raises.mono {body : State → Run α} (h : Raises P body) (hpq : ∀ e, P e → Q e) : Raises Q body :=
  fun s e t he => hpq e (h s e t he)

/-- A body that only returns. -/
theorem raises_ret (v : State → α) (u : State → State) : Raises P fun s => ret (v s) (u s) := by
  rintro s e t ⟨⟩

theorem raises_raise {e : ErrorKind} (h : P e) : Raises (α := α) P (raise e) := by
  rintro s _ t ⟨⟩
  exact h

theorem raises_orRaise {o : State → Option α} {e : ErrorKind} (h : P e) : Raises P fun s => orRaise (o s) e s := by
  intro s e' t he
  dsimp only at he
  cases ho : o s with
  | none => rw [ho] at he; cases he; exact h
  | some v => rw [ho] at he; cases he

theorem Raises.andThen {m : State → Run α} {f : α → State → Run β} (hm : Raises P m) (hf : ∀ v, Raises P (f v)) :
    Raises P fun s => (m s).andThen f := by
  intro s e t he
  dsimp only at he
  obtain ⟨v, -, e'⟩ | ⟨k, hk, e'⟩ := andThen_cases (m s) f
  · rw [e'] at he
    exact hf v _ _ _ he
  · rw [e'] at he
    cases he
    exact hm s _ _ hk

/-- An error reply of an instruction is one that its body may raise. -/
theorem mayRaise_of_transact {f : α → Reply} {body : State → Run α} {i : Instr} {s t : State} {e : ErrorKind}
    (h : transact f body s = .next t) (hr : t.replies = s.replies ++ [.error e])
    (hb : Raises (fun e => mayRaise s.cfg.setchAck i e = true) body) (hf : ∀ v, f v ≠ .error e := by rintro _ ⟨⟩) :
    mayRaise s.cfg.setchAck i e = true := by
  obtain ⟨u, hu, -⟩ := raised_of_transact h hr hf
  exact hb _ _ _ hu

end

/-! ### The classifier -/

theorem raises_readHeader : Raises (fun e => clsStepErrors e = true) readHeader := by
  intro s e t he
  rw [readHeader_eq] at he
  cases hh : Header.ofBytes? (atRead 6 s).rxbuf with
  | some h => rw [hh] at he; cases he
  | none =>
    rw [hh] at he
    dsimp only at he
    split at he <;> cases he <;> rfl

theorem raises_readPayload (l : Word16) : Raises (fun e => payloadErrors e = true) (readPayload l) := by
  intro s e t he
  rw [readPayload_eq] at he
  split at he <;> cases he
  rfl

/-- A frame class raises what its row allows (log entry 9). -/
theorem raises_takeFrame (ack : SetchAck) (f : Frame) : Raises (fun e => mayRaise ack f.toInstr e = true) (takeFrame f) := by
  cases f with
  | hwResponse p1 p2 d c => exact raises_ret _ _
  | hwRichResponse l d c =>
    have h : Raises (fun e => payloadErrors e = true) (takeHwRichResponse l d c) :=
      (raises_readPayload l).andThen fun _ => raises_ret _ _
    exact h
  | statusUpdate i l d c =>
    have hread : Raises (fun e => mayRaise ack (.statusUpdate i l d c) e = true) (readPayload l) :=
      (raises_readPayload l).mono fun e he => by
        cases e with
        | shortPayload want got => rfl
        | _ => cases he
    have htail : ∀ data, Raises (fun e => mayRaise ack (.statusUpdate i l d c) e = true) fun s =>
        if s.handler then ret (FrameOutcome.consumed .statusUpdate) (emitStatus (longMessage i l d c data) s)
        else raise (.noStatusHandler i) s := by
      intro data s e t he
      dsimp only at he
      split at he <;> cases he
      rfl
    exact hread.andThen htail
  | answerLong i l d c =>
    have h : Raises (fun e => payloadErrors e = true) (takeAnswerLong i l d c) :=
      (raises_readPayload l).andThen fun _ => raises_ret _ _
    exact h
  | answerShort i p1 p2 d c => exact raises_ret _ _

/-- The row of a frame class lies within that of CLS_STEP. -/
theorem clsStepErrors_of_frame {ack : SetchAck} {f : Frame} {e : ErrorKind} (h : mayRaise ack f.toInstr e = true) :
    clsStepErrors e = true := by
  cases e with
  | noFrame => rfl
  | shortRead got => rfl
  | shortPayload want got => rfl
  | noStatusHandler id => rfl
  | _ => cases f <;> cases h

theorem raises_clsStep : Raises (fun e => clsStepErrors e = true) clsStep :=
  raises_readHeader.andThen fun h s e t he =>
    clsStepErrors_of_frame (raises_takeFrame .write (classify s.frameContext h) s e t he)

theorem clsRunErrors_of_clsStep {e : ErrorKind} (h : clsStepErrors e = true) : clsRunErrors e = true := by
  unfold clsRunErrors
  split
  · rfl
  · exact h

theorem raises_clsRun : Raises (fun e => clsRunErrors e = true) clsRun := fun _ e t he =>
  drain_raises (fun s e t h => clsRunErrors_of_clsStep (raises_clsStep s e t h)) (fun _ => rfl) _ _ e t he

/-! ### The sequences -/

theorem queryErrors_of_clsRun {e : ErrorKind} (h : clsRunErrors e = true) : queryErrors e = true := by
  unfold queryErrors
  split
  · rfl
  · exact h

theorem raises_needDest {P : ErrorKind → Prop} (h : P .noDestination) : Raises P needDest :=
  raises_orRaise (o := State.dest) h

theorem raises_runQuery (id : Word16) (p1 p2 : Byte) : Raises (fun e => queryErrors e = true) (runQuery id p1 p2) := by
  have hrun : ∀ d, Raises (fun e => queryErrors e = true) fun s => clsRun (requested id p1 p2 d s) := fun d s e t he =>
    queryErrors_of_clsRun (raises_clsRun _ e t he)
  exact (raises_needDest (by rfl)).andThen hrun

theorem raises_runWrite {P : ErrorKind → Prop} (id : Word16) (p1 p2 : Byte) (h : P .noDestination) :
    Raises P (runWrite id p1 p2) :=
  (raises_needDest h).andThen fun _ => raises_ret _ _

theorem raises_decodeIdentity {P : ErrorKind → Prop} (p : Bytes) (h : P (.badInfoLength p.length)) :
    Raises P (decodeIdentity p) := by
  intro s e t he
  unfold decodeIdentity at he
  split at he <;> cases he
  exact h

theorem raises_decodeAndLatch {P : ErrorKind → Prop} (p : Bytes) (h : P (.badInfoLength p.length)) :
    Raises P (decodeAndLatch p) :=
  (raises_decodeIdentity p h).andThen fun r => raises_ret (fun _ => r) (latchIdentity r)

theorem raises_initBlock {P : ErrorKind → Prop} (source destination : Option Byte) (h : P .noDestination) :
    Raises P (initBlock source destination) := by
  intro s e t he
  cases destination <;> cases he
  exact h

theorem raises_longBytes {P : ErrorKind → Prop} (m : Message) (h : P .infoNotLong) : Raises P (longBytes m) := by
  intro s e t he
  unfold longBytes at he
  split at he <;> cases he
  exact h

theorem raises_shortParam2 {P : ErrorKind → Prop} (m : Message) (h : P .expectedShort) : Raises P (shortParam2 m) := by
  intro s e t he
  unfold shortParam2 at he
  split at he <;> cases he
  exact h

theorem raises_runGetHwInfo (ack : SetchAck) : Raises (fun e => mayRaise ack .getHwInfo e = true) runGetHwInfo := by
  have hquery : Raises (fun e => mayRaise ack .getHwInfo e = true) (runQuery idGetHwInfo 0 0) :=
    (raises_runQuery _ _ _).mono fun e he => by
      cases e with
      | infoNotLong => rfl
      | badInfoLength got => rfl
      | _ => exact he
  exact hquery.andThen fun m => (raises_longBytes m (by rfl)).andThen fun p => raises_decodeAndLatch p (by rfl)

theorem raises_runGetChannelState (ack : SetchAck) (c : Nat) :
    Raises (fun e => mayRaise ack (.getChannelState c) e = true) (runGetChannelState c) := by
  have hquery : ∀ ident, Raises (fun e => mayRaise ack (.getChannelState c) e = true) (runQuery idGetChannelState ident 0) :=
    fun ident => (raises_runQuery _ _ _).mono fun e he => by
      cases e with
      | unknownChannel n => rfl
      | expectedShort => rfl
      | badChannelState b => rfl
      | _ => exact he
  have hlookup : Raises (fun e => mayRaise ack (.getChannelState c) e = true)
      fun s => orRaise (channelIdent c) (.unknownChannel c) s := raises_orRaise (o := fun _ => channelIdent c) rfl
  exact hlookup.andThen fun ident => (hquery ident).andThen fun m => (raises_shortParam2 m (by rfl)).andThen fun b =>
    raises_orRaise (o := fun _ => decodeChannelState b) (by rfl)

/-- SETCH_ACK says which sequence's errors they are (R233, log entry 19). -/
theorem mayRaise_of_setChannelErrors {ack : SetchAck} (c : Nat) (on : Bool) {e : ErrorKind}
    (h : setChannelErrors ack e = true) :
    mayRaise ack (.setChannelState c on) e = true := by
  cases e with
  | unknownChannel n => rfl
  | _ => exact h

theorem runSetChannelState_mayRaise {c : Nat} {on : Bool} {s t : State} {e : ErrorKind}
    (h : runSetChannelState c on s = raise e t) : mayRaise s.cfg.setchAck (.setChannelState c on) e = true := by
  cases hc : channelIdent c with
  | none =>
    rw [runSetChannelState, hc, orRaise_none, andThen_raise] at h
    cases h
    rfl
  | some ident =>
    refine mayRaise_of_setChannelErrors c on ?_
    cases ha : s.cfg.setchAck with
    | write =>
      rw [runSetChannelState_write hc ha] at h
      exact raises_runWrite (P := fun e => setChannelErrors .write e = true) _ _ _ rfl s e t h
    | query =>
      rw [runSetChannelState_query hc ha] at h
      exact (raises_runQuery _ _ _).andThen (fun _ => raises_ret _ _) s e t h

/-! ### The instructions -/

/-- A frame class, by the work it stands for (log entry 9). -/
theorem exec_toInstr_mayRaise {f : Frame} {s t : State} {e : ErrorKind} (h : exec f.toInstr s = .next t)
    (hr : t.replies = s.replies ++ [.error e]) : mayRaise s.cfg.setchAck f.toInstr e = true := by
  rw [exec_toInstr] at h
  exact mayRaise_of_transact h hr fun s => raises_takeFrame _ f (setHdr f.header s)

/-- An error reply is one of the instruction's row. -/
theorem exec_mayRaise {i : Instr} {s t : State} {e : ErrorKind} (h : exec i s = .next t)
    (hr : t.replies = s.replies ++ [.error e]) : mayRaise s.cfg.setchAck i e = true := by
  cases i with
  | reserved => exact mayRaise_of_transact h hr (raises_raise rfl)
  | encShort id p1 p2 dest source => exact mayRaise_of_transact h hr (raises_ret _ _)
  | decLong b => exact mayRaise_of_transact h hr (raises_orRaise rfl)
  | decShort b => exact mayRaise_of_transact h hr (raises_orRaise rfl)
  | clsStep => exact mayRaise_of_transact h hr raises_clsStep
  | clsRun => exact mayRaise_of_transact h hr raises_clsRun
  | histPush id => exact mayRaise_of_transact (body := fun s => ret () (pushHistory id s)) h hr (raises_ret _ _)
  | histLast => exact mayRaise_of_transact h hr (raises_ret _ _)
  | hwiDecode p => exact mayRaise_of_transact h hr (raises_decodeIdentity p rfl)
  | modelLookup serial => exact mayRaise_of_transact h hr (raises_ret _ _)
  | hwiLatch p => exact mayRaise_of_transact h hr (raises_decodeAndLatch p rfl)
  | init source destination => exact mayRaise_of_transact h hr (raises_initBlock source destination rfl)
  | setSuid v => exact mayRaise_of_transact (body := fun s => ret () { s with suid := v }) h hr (raises_ret _ _)
  | setHandler present =>
    exact mayRaise_of_transact (body := fun s => ret () { s with handler := present }) h hr (raises_ret _ _)
  | setVerbose on => exact mayRaise_of_transact (body := fun s => ret () { s with verbose := on }) h hr (raises_ret _ _)
  | crRd n => exact mayRaise_of_transact h hr (raises_orRaise rfl)
  | hwResponse p1 p2 d c => exact exec_toInstr_mayRaise (f := .hwResponse p1 p2 d c) h hr
  | hwRichResponse l d c => exact exec_toInstr_mayRaise (f := .hwRichResponse l d c) h hr
  | statusUpdate i l d c => exact exec_toInstr_mayRaise (f := .statusUpdate i l d c) h hr
  | answerLong i l d c => exact exec_toInstr_mayRaise (f := .answerLong i l d c) h hr
  | answerShort i p1 p2 d c => exact exec_toInstr_mayRaise (f := .answerShort i p1 p2 d c) h hr
  | query id p1 p2 => exact mayRaise_of_transact h hr (raises_runQuery id p1 p2)
  | write id p1 p2 => exact mayRaise_of_transact h hr (raises_runWrite id p1 p2 rfl)
  | getHwInfo => exact mayRaise_of_transact h hr (raises_runGetHwInfo _)
  | setChannelState c on =>
    obtain ⟨u, hu, -⟩ := raised_of_transact (body := runSetChannelState c on) h hr nofun
    exact runSetChannelState_mayRaise (s := { s with busy := true }) hu
  | getChannelState c => exact mayRaise_of_transact h hr (raises_runGetChannelState _ c)

/-- Settles O47. -/
theorem errorsAreThoseOfTheTable : Obligations.ErrorsAreThoseOfTheTable :=
  fun _ _ _ _ h hr => exec_mayRaise h hr

end Sys2Proof.Machine
end
